-- ==== Sys2Proof/Word.lean ====
section
/-! DEFINITION. The word types of the two cores (spec 00_scope.md R6, R8): a byte and a 16-bit word. -/

set_option autoImplicit false

namespace Sys2Proof

/-- A memory byte, an 8051 register, a byte half of an 8086 register (R6, R27, R30). -/
abbrev Byte := BitVec 8

/-- A 16-bit register: every 8086 register, and DPTR (R6, R20, R33). -/
abbrev Word := BitVec 16

end Sys2Proof
end

