-- ==== Sys2Proof/Syntax.lean ====
section
/-! DEFINITION. The whole syntax: the two architectures, their register and operand names, the parsed
instruction record the execution engines take (spec 30_encoding.md R80), the opcode-table entries
(R88, R89), and the instructions. `Instr` has one constructor for each of the 72 row schemas of
`opcode_table.json` (X1 to X38, Y1 to Y34: R106, R107), then the forms the engines execute although no
row encodes them (R113) and core86's `DIV` (R166). -/

set_option autoImplicit false

namespace Sys2Proof

/-- The two architectures, with the spec's names (R1, R2). -/
inductive Arch where
  | core86
  | core51
deriving DecidableEq, Repr, Inhabited

/-- The 16-bit register names an 8086 operand may be (R131 step 2), in the order of their numbers (R105). -/
inductive R16 where
  | AX | CX | DX | BX | SP | BP | SI | DI
deriving DecidableEq, Repr, Inhabited

/-- The 8-bit register names an 8086 operand may be (R131 step 1), in the order of their numbers (R105). -/
inductive R8 where
  | AL | CL | DL | BL | AH | CH | DH | BH
deriving DecidableEq, Repr, Inhabited

/-- The 8051 general registers R0 to R7 (R32). -/
inductive RN where
  | R0 | R1 | R2 | R3 | R4 | R5 | R6 | R7
deriving DecidableEq, Repr, Inhabited

/-- The registers `MOVX` may go through: `@R0`, `@R1` (R188). -/
inductive RI where
  | R0 | R1
deriving DecidableEq, Repr, Inhabited

/-- An 8086 destination: the writable classes of R133. -/
inductive Dst86 where
  | r8 (r : R8)
  | r16 (r : R16)
deriving DecidableEq, Repr, Inhabited

/-- A classified 8086 operand, `cls86` (R131). A literal has no width until it is used. -/
inductive Opd86 where
  | r8 (r : R8)
  | r16 (r : R16)
  | lit (n : Nat)
deriving DecidableEq, Repr, Inhabited

/-- The 8-bit 8051 registers an instruction may name: A, B, R0 to R7 (R181, R194). -/
inductive Loc51 where
  | A
  | B
  | R (r : RN)
deriving DecidableEq, Repr, Inhabited

/-- The source of an 8-bit 8051 `MOV`: a register or an immediate of any magnitude (R182, R194). -/
inductive Src51 where
  | loc (l : Loc51)
  | imm (n : Nat)
deriving DecidableEq, Repr, Inhabited

/-- A classified 8051 operand, `cls51` (R181). -/
inductive Cls51 where
  | loc (l : Loc51)
  | dptr
  | pairAB
  | flagC
  | indDptr
  | indR (i : RI)
  | imm (n : Nat)
  | bare (n : Nat)
deriving DecidableEq, Repr, Inhabited

/-- The arithmetic and logical mnemonics of core86, the `m` of R137's functions. -/
inductive Arith86 where
  | add | sub | cmp | inc | dec | and | or | xor
deriving DecidableEq, Repr, Inhabited

/-- The operation widths of core86 (R135, R147). -/
inductive Width where
  | w8
  | w16
deriving DecidableEq, Repr, Inhabited

/-- The status an `execute` transaction returns (R11, R241). -/
inductive Status where
  | ok
  | unknownInstruction
  | divByZero
deriving DecidableEq, Repr, Inhabited

/-- One operand string, or a mnemonic: the characters as the user wrote them (R80). -/
abbrev Token := List Char

/-- The parsed instruction: the instruction input of both execution engines (R3, R80). `sourceLine` has
no effect on any rule. -/
structure Record where
  mnemonic : Token
  operands : List Token
  sourceLine : Option Nat := none
deriving DecidableEq, Repr, Inhabited

/-- The mnemonics core86 specifies, and `DIV` (R130). -/
inductive Mnem86 where
  | mov | add | sub | cmp | inc | dec | and | or | xor | jmp | je | jz | jne | jnz | hlt | div
deriving DecidableEq, Repr, Inhabited

/-- The mnemonics core51 specifies (R180). -/
inductive Mnem51 where
  | mov | movx | inc | dec | mul | div | rlc | rrc | clr | setb | cpl | sjmp | jz | jnz | jc | jnc
deriving DecidableEq, Repr, Inhabited

/-- The five placeholders of an operand template (R89). -/
inductive Placeholder where
  | imm8 | imm16 | direct | rel8 | rel16
deriving DecidableEq, Repr, Inhabited

/-- One operand pattern of a template: fixed text, or one placeholder, optionally after `#` (R88). -/
inductive Pattern where
  | fixed (t : Token)
  | field (marker : Bool) (p : Placeholder)
deriving DecidableEq, Repr, Inhabited

/-- One entry of an opcode table (R88); `bigEndian` is the byte order of its 2-byte placeholder (R90). -/
structure Entry where
  mnemonic : Token
  lead : List Byte
  len : Nat
  template : List Pattern
  bigEndian : Bool := false
deriving DecidableEq, Repr, Inhabited

/-- An opcode table: an ordered list of entries (R91), written as its rows, each the entries one row schema
stands for (R105). Declaration order is row after row. -/
abbrev Table := List (List Entry)

/-- The decoder's result for one position: an entry with the values of its placeholders in template
order (R92), or the `Unknown(b)` marker, the decoder's rejection by name (R93). -/
inductive Decoded where
  | known (e : Entry) (values : List Nat)
  | unknown (b : Byte)
deriving DecidableEq, Repr

/-- One line of a disassembly (R95): address, consumed slice, and what it decoded to. -/
structure Line where
  address : Nat
  bytes : List Byte
  decoded : Decoded
deriving DecidableEq, Repr

/-- Every instruction of both cores. -/
inductive Instr where
  /-- Row X1: `MOV R16(r), #imm16` (R138). -/
  | x86MovR16Imm16 (r : R16) (n : Word)
  /-- Row X2: `MOV R8(r), #imm8` (R138). -/
  | x86MovR8Imm8 (r : R8) (n : Byte)
  /-- Row X3: `MOV R16(d), R16(s)` (R138). -/
  | x86MovR16R16 (d s : R16)
  /-- Row X4: `MOV R8(d), R8(s)` (R138). -/
  | x86MovR8R8 (d s : R8)
  /-- Row X5: `ADD R16(r), #imm16` (R139). -/
  | x86AddR16Imm16 (r : R16) (n : Word)
  /-- Row X6: `ADD R8(r), #imm8` (R139). -/
  | x86AddR8Imm8 (r : R8) (n : Byte)
  /-- Row X7: `ADD R16(d), R16(s)` (R139). -/
  | x86AddR16R16 (d s : R16)
  /-- Row X8: `ADD R8(d), R8(s)` (R139). -/
  | x86AddR8R8 (d s : R8)
  /-- Row X9: `SUB R16(r), #imm16` (R140). -/
  | x86SubR16Imm16 (r : R16) (n : Word)
  /-- Row X10: `SUB R8(r), #imm8` (R140). -/
  | x86SubR8Imm8 (r : R8) (n : Byte)
  /-- Row X11: `SUB R16(d), R16(s)` (R140). -/
  | x86SubR16R16 (d s : R16)
  /-- Row X12: `SUB R8(d), R8(s)` (R140). -/
  | x86SubR8R8 (d s : R8)
  /-- Row X13: `CMP R16(r), #imm16` (R141). -/
  | x86CmpR16Imm16 (r : R16) (n : Word)
  /-- Row X14: `CMP R8(r), #imm8` (R141). -/
  | x86CmpR8Imm8 (r : R8) (n : Byte)
  /-- Row X15: `CMP R16(d), R16(s)` (R141). -/
  | x86CmpR16R16 (d s : R16)
  /-- Row X16: `CMP R8(d), R8(s)` (R141). -/
  | x86CmpR8R8 (d s : R8)
  /-- Row X17: `INC R16(r)` (R142). -/
  | x86IncR16 (r : R16)
  /-- Row X18: `INC R8(r)` (R142). -/
  | x86IncR8 (r : R8)
  /-- Row X19: `DEC R16(r)` (R143). -/
  | x86DecR16 (r : R16)
  /-- Row X20: `DEC R8(r)` (R143). -/
  | x86DecR8 (r : R8)
  /-- Row X21: `AND R16(r), #imm16` (R144). -/
  | x86AndR16Imm16 (r : R16) (n : Word)
  /-- Row X22: `AND R8(r), #imm8` (R144). -/
  | x86AndR8Imm8 (r : R8) (n : Byte)
  /-- Row X23: `AND R16(d), R16(s)` (R144). -/
  | x86AndR16R16 (d s : R16)
  /-- Row X24: `AND R8(d), R8(s)` (R144). -/
  | x86AndR8R8 (d s : R8)
  /-- Row X25: `OR R16(r), #imm16` (R145). -/
  | x86OrR16Imm16 (r : R16) (n : Word)
  /-- Row X26: `OR R8(r), #imm8` (R145). -/
  | x86OrR8Imm8 (r : R8) (n : Byte)
  /-- Row X27: `OR R16(d), R16(s)` (R145). -/
  | x86OrR16R16 (d s : R16)
  /-- Row X28: `OR R8(d), R8(s)` (R145). -/
  | x86OrR8R8 (d s : R8)
  /-- Row X29: `XOR R16(r), #imm16` (R146). -/
  | x86XorR16Imm16 (r : R16) (n : Word)
  /-- Row X30: `XOR R8(r), #imm8` (R146). -/
  | x86XorR8Imm8 (r : R8) (n : Byte)
  /-- Row X31: `XOR R16(d), R16(s)` (R146). -/
  | x86XorR16R16 (d s : R16)
  /-- Row X32: `XOR R8(d), R8(s)` (R146). -/
  | x86XorR8R8 (d s : R8)
  /-- Row X33: `JMP rel16`; the field is the listing index as written (R160, R103). -/
  | x86Jmp (t : Word)
  /-- Row X34: `JE rel8` (R161). -/
  | x86Je (t : Byte)
  /-- Row X35: `JZ rel8` (R162). -/
  | x86Jz (t : Byte)
  /-- Row X36: `JNE rel8` (R163). -/
  | x86Jne (t : Byte)
  /-- Row X37: `JNZ rel8` (R164). -/
  | x86Jnz (t : Byte)
  /-- Row X38: `HLT` (R165). -/
  | x86Hlt
  /-- Row Y1: `MOV A, #imm8` (R184). -/
  | i51MovAImm (n : Byte)
  /-- Row Y2: `MOV B, #imm8` (R184). -/
  | i51MovBImm (n : Byte)
  /-- Row Y3: `MOV Rn, #imm8` (R184). -/
  | i51MovRnImm (r : RN) (n : Byte)
  /-- Row Y4: `MOV DPTR, #imm16` (R185). -/
  | i51MovDptrImm (n : Word)
  /-- Row Y5: `MOV A, Rn` (R184). -/
  | i51MovARn (r : RN)
  /-- Row Y6: `MOV Rn, A` (R184). -/
  | i51MovRnA (r : RN)
  /-- Row Y7: `MOV A, B` (R184). -/
  | i51MovAB
  /-- Row Y8: `MOV B, A` (R184). -/
  | i51MovBA
  /-- Row Y9: `MOV B, Rn` (R184). -/
  | i51MovBRn (r : RN)
  /-- Row Y10: `MOV Rn, B` (R184). -/
  | i51MovRnB (r : RN)
  /-- Row Y11: `MOVX A, @DPTR` (R186). -/
  | i51MovxADptr
  /-- Row Y12: `MOVX @DPTR, A` (R187). -/
  | i51MovxDptrA
  /-- Row Y13: `MOVX A, @Ri` (R188). -/
  | i51MovxARi (i : RI)
  /-- Row Y14: `MOVX @Ri, A` (R189). -/
  | i51MovxRiA (i : RI)
  /-- Row Y15: `INC A` (R190). -/
  | i51IncA
  /-- Row Y16: `INC B` (R190). -/
  | i51IncB
  /-- Row Y17: `INC Rn` (R190). -/
  | i51IncRn (r : RN)
  /-- Row Y18: `INC DPTR` (R192). -/
  | i51IncDptr
  /-- Row Y19: `DEC A` (R191). -/
  | i51DecA
  /-- Row Y20: `DEC B` (R191). -/
  | i51DecB
  /-- Row Y21: `DEC Rn` (R191). -/
  | i51DecRn (r : RN)
  /-- Row Y22: `DEC DPTR` (R193). -/
  | i51DecDptr
  /-- Row Y23: `MUL AB` (R200). -/
  | i51MulAB
  /-- Row Y24: `DIV AB` (R201). -/
  | i51DivAB
  /-- Row Y25: `RLC A` (R202). -/
  | i51RlcA
  /-- Row Y26: `RRC A` (R203). -/
  | i51RrcA
  /-- Row Y27: `CLR C` (R204). -/
  | i51ClrC
  /-- Row Y28: `SETB C` (R205). -/
  | i51SetbC
  /-- Row Y29: `CPL C` (R206). -/
  | i51CplC
  /-- Row Y30: `SJMP rel8` (R221). -/
  | i51Sjmp (t : Byte)
  /-- Row Y31: `JZ rel8` (R222). -/
  | i51Jz (t : Byte)
  /-- Row Y32: `JNZ rel8` (R223). -/
  | i51Jnz (t : Byte)
  /-- Row Y33: `JC rel8` (R224). -/
  | i51Jc (t : Byte)
  /-- Row Y34: `JNC rel8` (R225). -/
  | i51Jnc (t : Byte)
  /-- Execute-only `MOV` forms: mixed widths, or a literal that no immediate field of the destination's width holds (R138, R113, R134). -/
  | x86MovForm (d : Dst86) (src : Opd86)
  /-- Execute-only `ADD` forms: mixed widths, or a literal that no immediate field of the destination's width holds (R139, R113, R134). -/
  | x86AddForm (d : Dst86) (src : Opd86)
  /-- Execute-only `SUB` forms: mixed widths, or a literal that no immediate field of the destination's width holds (R140, R113, R134). -/
  | x86SubForm (d : Dst86) (src : Opd86)
  /-- Execute-only `CMP` forms: mixed widths, a literal no field of rows X13, X14 holds, a literal first operand (R141, R113, R134). -/
  | x86CmpForm (l r : Opd86)
  /-- Execute-only `AND` forms: mixed widths, or a literal that no immediate field of the destination's width holds (R144, R113, R134). -/
  | x86AndForm (d : Dst86) (src : Opd86)
  /-- Execute-only `OR` forms: mixed widths, or a literal that no immediate field of the destination's width holds (R145, R113, R134). -/
  | x86OrForm (d : Dst86) (src : Opd86)
  /-- Execute-only `XOR` forms: mixed widths, or a literal that no immediate field of the destination's width holds (R146, R113, R134). -/
  | x86XorForm (d : Dst86) (src : Opd86)
  /-- Execute-only `JMP` to a literal target wider than its `rel16` field (R160, R170). -/
  | x86JmpLit (n : Nat)
  /-- Execute-only `JE` to a literal target wider than its `rel8` field (R161, R170). -/
  | x86JeLit (n : Nat)
  /-- Execute-only `JZ` to a literal target wider than its `rel8` field (R162, R170). -/
  | x86JzLit (n : Nat)
  /-- Execute-only `JNE` to a literal target wider than its `rel8` field (R163, R170). -/
  | x86JneLit (n : Nat)
  /-- Execute-only `JNZ` to a literal target wider than its `rel8` field (R164, R170). -/
  | x86JnzLit (n : Nat)
  /-- `DIV` with any operands on core86: the mnemonic the engine does not support (R166); the operands are never looked at (R246). -/
  | x86Div
  /-- Execute-only 8-bit `MOV` forms: `MOV Rn, Rm`, `MOV A, A`, `MOV B, B`, an immediate wider than 8 bits (R184, R113, R194). -/
  | i51MovForm (d : Loc51) (src : Src51)
  /-- Execute-only `MOV DPTR, #imm` with an immediate wider than 16 bits (R185). -/
  | i51MovDptrLit (n : Nat)
  /-- Execute-only `SJMP` to a literal target wider than `rel8` (R221, R220). -/
  | i51SjmpLit (n : Nat)
  /-- Execute-only `JZ` to a literal target wider than `rel8` (R222, R220). -/
  | i51JzLit (n : Nat)
  /-- Execute-only `JNZ` to a literal target wider than `rel8` (R223, R220). -/
  | i51JnzLit (n : Nat)
  /-- Execute-only `JC` to a literal target wider than `rel8` (R224, R220). -/
  | i51JcLit (n : Nat)
  /-- Execute-only `JNC` to a literal target wider than `rel8` (R225, R220). -/
  | i51JncLit (n : Nat)
deriving DecidableEq, Repr, Inhabited

/-- The core whose state an instruction acts on (R45, R130, R180). -/
def Instr.arch : Instr → Arch
  | .x86MovR16Imm16 .. => .core86
  | .x86MovR8Imm8 .. => .core86
  | .x86MovR16R16 .. => .core86
  | .x86MovR8R8 .. => .core86
  | .x86AddR16Imm16 .. => .core86
  | .x86AddR8Imm8 .. => .core86
  | .x86AddR16R16 .. => .core86
  | .x86AddR8R8 .. => .core86
  | .x86SubR16Imm16 .. => .core86
  | .x86SubR8Imm8 .. => .core86
  | .x86SubR16R16 .. => .core86
  | .x86SubR8R8 .. => .core86
  | .x86CmpR16Imm16 .. => .core86
  | .x86CmpR8Imm8 .. => .core86
  | .x86CmpR16R16 .. => .core86
  | .x86CmpR8R8 .. => .core86
  | .x86IncR16 .. => .core86
  | .x86IncR8 .. => .core86
  | .x86DecR16 .. => .core86
  | .x86DecR8 .. => .core86
  | .x86AndR16Imm16 .. => .core86
  | .x86AndR8Imm8 .. => .core86
  | .x86AndR16R16 .. => .core86
  | .x86AndR8R8 .. => .core86
  | .x86OrR16Imm16 .. => .core86
  | .x86OrR8Imm8 .. => .core86
  | .x86OrR16R16 .. => .core86
  | .x86OrR8R8 .. => .core86
  | .x86XorR16Imm16 .. => .core86
  | .x86XorR8Imm8 .. => .core86
  | .x86XorR16R16 .. => .core86
  | .x86XorR8R8 .. => .core86
  | .x86Jmp .. => .core86
  | .x86Je .. => .core86
  | .x86Jz .. => .core86
  | .x86Jne .. => .core86
  | .x86Jnz .. => .core86
  | .x86Hlt => .core86
  | .i51MovAImm .. => .core51
  | .i51MovBImm .. => .core51
  | .i51MovRnImm .. => .core51
  | .i51MovDptrImm .. => .core51
  | .i51MovARn .. => .core51
  | .i51MovRnA .. => .core51
  | .i51MovAB => .core51
  | .i51MovBA => .core51
  | .i51MovBRn .. => .core51
  | .i51MovRnB .. => .core51
  | .i51MovxADptr => .core51
  | .i51MovxDptrA => .core51
  | .i51MovxARi .. => .core51
  | .i51MovxRiA .. => .core51
  | .i51IncA => .core51
  | .i51IncB => .core51
  | .i51IncRn .. => .core51
  | .i51IncDptr => .core51
  | .i51DecA => .core51
  | .i51DecB => .core51
  | .i51DecRn .. => .core51
  | .i51DecDptr => .core51
  | .i51MulAB => .core51
  | .i51DivAB => .core51
  | .i51RlcA => .core51
  | .i51RrcA => .core51
  | .i51ClrC => .core51
  | .i51SetbC => .core51
  | .i51CplC => .core51
  | .i51Sjmp .. => .core51
  | .i51Jz .. => .core51
  | .i51Jnz .. => .core51
  | .i51Jc .. => .core51
  | .i51Jnc .. => .core51
  | .x86MovForm .. => .core86
  | .x86AddForm .. => .core86
  | .x86SubForm .. => .core86
  | .x86CmpForm .. => .core86
  | .x86AndForm .. => .core86
  | .x86OrForm .. => .core86
  | .x86XorForm .. => .core86
  | .x86JmpLit .. => .core86
  | .x86JeLit .. => .core86
  | .x86JzLit .. => .core86
  | .x86JneLit .. => .core86
  | .x86JnzLit .. => .core86
  | .x86Div => .core86
  | .i51MovForm .. => .core51
  | .i51MovDptrLit .. => .core51
  | .i51SjmpLit .. => .core51
  | .i51JzLit .. => .core51
  | .i51JnzLit .. => .core51
  | .i51JcLit .. => .core51
  | .i51JncLit .. => .core51

end Sys2Proof
end

