-- ==== Sys2Proof/Config.lean ====
section
/-! DEFINITION. What the spec leaves open (00_scope.md R7). The parameters whose values are plain data are
the record `Params`, which the state carries unchanged, so that a claim about every state holds for
every choice of them (assumption log 1). The functions the spec leaves uninterpreted (R137) are opaque
constants: nothing can be proved of their values (assumption log 2). -/

set_option autoImplicit false

namespace Sys2Proof.Config

/-- `PCW51`: the width of the 8051 program counter (R7, R34; 92_eei_decisions.md D17). -/
inductive PcWidth where
  | pc8
  | pc16
deriving DecidableEq, Repr, Inhabited

/-- A function from the old flag to the new one that is the identity or the constant false
(`DIVNZ51_C`, `DIVNZ51_OV`: R7, R201; D20). -/
inductive FlagRule where
  | keep
  | clear
deriving DecidableEq, Repr, Inhabited

/-- The plain-data parameters of R7 with the spec's default values. -/
structure Params where
  /-- `W_UNARY8` (D13): INC and DEC of an 8-bit 8086 register operate at width 8. -/
  unary8 : Bool := true
  /-- `IP_STEP` (D16): what an instruction that is not a taken jump adds to IP or PC. -/
  ipStep : Fin 2 := 0
  /-- `PCW51` (D17). -/
  pcWidth : PcWidth := .pc8
  /-- `P51_ODD` (D18): the 8051 P flag is true on an odd count of set bits in A. -/
  parityOdd : Bool := true
  /-- `DIVNZ51_C` (D20). -/
  divC : FlagRule := .clear
  /-- `DIVNZ51_OV` (D20). -/
  divOV : FlagRule := .clear
deriving DecidableEq, Repr, Inhabited

/-- `OF86(m, w, a, b, old)`: OF after ADD, SUB, CMP, INC, DEC. A free value (R137, D14, U2). -/
opaque of86 (m : Arith86) (w : Width) (a b : Nat) (old : Bool) : Bool

/-- `AF86(m, w, a, b, old)`: AF after each of the eight arithmetic and logical mnemonics. A free value
(R137, D14, U2). -/
opaque af86 (m : Arith86) (w : Width) (a b : Nat) (old : Bool) : Bool

/-- `CF86_INCDEC(m, w, a, old)`: CF after INC and DEC. A free value (R137, D14, U2). -/
opaque cfIncDec86 (m : Arith86) (w : Width) (a : Nat) (old : Bool) : Bool

end Sys2Proof.Config
end

