-- ==== Sys2Proof/Machine/State.lean ====
section
/-! DEFINITION. The state of the block (spec 10_state.md), the reasons a step can stop, and the machine
right after reset. The two cores hold no common cell (R45). Beside the block's own cells the state
carries the parameters of R7, the two reset records (R48) and the host's session, which decides which
instruction executes next (R46, R266, R267). -/

set_option autoImplicit false

namespace Sys2Proof.Machine

/-- A memory array as the list of its cells that are not 0, addresses strictly rising. An address that
is not listed reads as 0, the reset value of every cell under the default reset record (R48). -/
abbrev Memory := List Host.Cell

/-- The nine 8086 flags, separate Booleans and not bits of a word (R25). -/
structure Flags86 where
  CF : Bool
  PF : Bool
  AF : Bool
  ZF : Bool
  SF : Bool
  OF : Bool
  IF : Bool
  DF : Bool
  TF : Bool
deriving DecidableEq, Repr, Inhabited

/-- The state of core86 (R20 to R27). -/
structure Core86 where
  AX : Word
  BX : Word
  CX : Word
  DX : Word
  SP : Word
  BP : Word
  SI : Word
  DI : Word
  /-- A listing index, never a byte address (R23). -/
  IP : Word
  CS : Word
  DS : Word
  ES : Word
  SS : Word
  flags : Flags86
  /-- The halt latch (R26). -/
  halted : Bool
  mem : Memory
deriving DecidableEq, Repr, Inhabited

/-- The four 8051 flags (R37); `P` is a function of A at every instruction boundary (R38). -/
structure Flags51 where
  C : Bool
  AC : Bool
  OV : Bool
  P : Bool
deriving DecidableEq, Repr, Inhabited

/-- The state of core51 (R30 to R40). It has no halt latch (R42). -/
structure Core51 where
  A : Byte
  B : Byte
  R0 : Byte
  R1 : Byte
  R2 : Byte
  R3 : Byte
  R4 : Byte
  R5 : Byte
  R6 : Byte
  R7 : Byte
  DPTR : Word
  /-- A listing index held to the low `PCW51` bits (R34); the bits above are 0. -/
  PC : Word
  SP : Byte
  /-- An opaque cell: not a view of the flags (R36). -/
  PSW : Byte
  flags : Flags51
  /-- The four port latches, outside memory (R39). -/
  P0 : Byte
  P1 : Byte
  P2 : Byte
  P3 : Byte
  mem : Memory
deriving DecidableEq, Repr, Inhabited

/-- The host's side of a run (R46, R266, R267): which core is selected, the listing being executed, the
step cursor, and the statuses of the instructions executed so far, oldest first. -/
structure Session where
  selected : Arch
  listing : List Record
  cursor : Nat
  log : List Status
deriving DecidableEq, Repr, Inhabited

/-- The whole state. `params`, `resetRecord86` and `resetRecord51` are the parameters of R7, which no
transaction changes. -/
structure State where
  core86 : Core86
  core51 : Core51
  params : Config.Params
  resetRecord86 : Core86
  resetRecord51 : Core51
  session : Session
deriving DecidableEq, Repr, Inhabited

/-- The hardware raises no fault: no transaction faults, whatever the instruction, the operands and the
address (R51, R61, R240). No constructor, so no step can end in one; safe. -/
inductive Fault where
deriving DecidableEq, Repr

/-- The reasons a record is given no meaning. All but the last are the REFUSED of R11: the spec fixes no
state effect for the form. Each is raised when the record is classified, before any cell changes; safe. -/
inductive Refusal where
  /-- A mnemonic of which the spec cannot tell whether the core supports it (R168, R227); safe. -/
  | unlistedMnemonic (a : Arch) (mnemonic : Token)
  /-- A listed mnemonic with operands outside the admitted shapes (R134, R194); safe. -/
  | inadmissibleForm (a : Arch) (mnemonic : Token)
  /-- An operand that names state no instruction is known to reach (R131 step 3, R181 step 2); safe. -/
  | refusedName (token : Token)
  /-- A numeral of which the spec cannot tell whether it fails numeric parsing (R85); safe. -/
  | refusedNumeral (token : Token)
  /-- A token with a lower-case letter that is not the `x` of a `0x` prefix (R83); safe. -/
  | lowerCaseToken (token : Token)
  /-- The instruction has no meaning in the model yet (raised by `exec`'s arms only); safe. -/
  | notModelled (mnemonic : String)
deriving DecidableEq, Repr

/-- What a transaction answers. -/
abbrev Result := Host.Outcome State Fault Refusal

/-- Every 8086 flag false. -/
def Flags86.clear : Flags86 :=
  { CF := false, PF := false, AF := false, ZF := false, SF := false, OF := false,
    IF := false, DF := false, TF := false }

/-- The default of `RESET86`, with the halt latch clear (R48). -/
def Core86.initial : Core86 :=
  { AX := 0, BX := 0, CX := 0, DX := 0, SP := 0, BP := 0, SI := 0, DI := 0, IP := 0,
    CS := 0, DS := 0, ES := 0, SS := 0, flags := Flags86.clear, halted := false, mem := [] }

/-- The default of `RESET51`, with the ports all ones and P the parity of A = 0 under the default
`P51_ODD` (R39, R48). -/
def Core51.initial : Core51 :=
  { A := 0, B := 0, R0 := 0, R1 := 0, R2 := 0, R3 := 0, R4 := 0, R5 := 0, R6 := 0, R7 := 0,
    DPTR := 0, PC := 0, SP := 0, PSW := 0,
    flags := { C := false, AC := false, OV := false, P := false },
    P0 := 0xFF, P1 := 0xFF, P2 := 0xFF, P3 := 0xFF, mem := [] }

/-- The machine after both cores are reset, with the default parameters (R7, R48) and a host that has
selected core86 and assembled nothing (assumption logs 1, 3, 4). -/
def State.reset : State :=
  { core86 := Core86.initial, core51 := Core51.initial, params := {},
    resetRecord86 := Core86.initial, resetRecord51 := Core51.initial,
    session := { selected := .core86, listing := [], cursor := 0, log := [] } }

end Sys2Proof.Machine
end

