-- ==== Sys2Proof/Machine/Tokens.lean ====
section
/-! DEFINITION. Text: the line parser (spec 30_encoding.md R81, R82), the register and operand names of both
architectures (R131, R181), the token alphabet (R83), the numeric-literal grammar `lit` (R84, R85), and
the numerals the model itself writes (R96). -/

set_option autoImplicit false

namespace Sys2Proof.Machine

/-- A token written as a string. -/
def tok (t : String) : Token := t.toList

/-! ### Names -/

/-- The name of an 8086 16-bit register (R105, R131). -/
def nameR16 : R16 → Token
  | .AX => ['A', 'X']
  | .CX => ['C', 'X']
  | .DX => ['D', 'X']
  | .BX => ['B', 'X']
  | .SP => ['S', 'P']
  | .BP => ['B', 'P']
  | .SI => ['S', 'I']
  | .DI => ['D', 'I']

/-- The name of an 8086 8-bit register (R105, R131). -/
def nameR8 : R8 → Token
  | .AL => ['A', 'L']
  | .CL => ['C', 'L']
  | .DL => ['D', 'L']
  | .BL => ['B', 'L']
  | .AH => ['A', 'H']
  | .CH => ['C', 'H']
  | .DH => ['D', 'H']
  | .BH => ['B', 'H']

/-- The name of an 8051 general register (R32). -/
def nameRN : RN → Token
  | .R0 => ['R', '0']
  | .R1 => ['R', '1']
  | .R2 => ['R', '2']
  | .R3 => ['R', '3']
  | .R4 => ['R', '4']
  | .R5 => ['R', '5']
  | .R6 => ['R', '6']
  | .R7 => ['R', '7']

/-- The name of an 8-bit 8051 register (R181). -/
def nameLoc51 : Loc51 → Token
  | .A => ['A']
  | .B => ['B']
  | .R r => nameRN r

/-- The token `@Ri` (R181). -/
def nameInd : RI → Token
  | .R0 => ['@', 'R', '0']
  | .R1 => ['@', 'R', '1']

/-- The token `@DPTR` (R181). -/
def nameIndDptr : Token := ['@', 'D', 'P', 'T', 'R']

/-- The token `DPTR` (R181). -/
def nameDptr : Token := ['D', 'P', 'T', 'R']

/-- The 16-bit registers in the order of their numbers (R105). -/
def allR16 : List R16 := [.AX, .CX, .DX, .BX, .SP, .BP, .SI, .DI]

/-- The 8-bit registers in the order of their numbers (R105). -/
def allR8 : List R8 := [.AL, .CL, .DL, .BL, .AH, .CH, .DH, .BH]

/-- R0 to R7. -/
def allRN : List RN := [.R0, .R1, .R2, .R3, .R4, .R5, .R6, .R7]

/-- R0 and R1. -/
def allRI : List RI := [.R0, .R1]

/-- The names of core86 with the operand class each has (R131 steps 1, 2). -/
def names86 : List (Token × Opd86) :=
  allR8.map (fun r => (nameR8 r, .r8 r)) ++ allR16.map (fun r => (nameR16 r, .r16 r))

/-- The names of core86 that no instruction is known to accept (R131 step 3). -/
def refusedNames86 : List Token :=
  [['C', 'S'], ['D', 'S'], ['E', 'S'], ['S', 'S'], ['I', 'P']]

/-- The names of core51 with the operand class each has (R181 step 1). -/
def names51 : List (Token × Cls51) :=
  [(['A'], .loc .A), (['B'], .loc .B)] ++ allRN.map (fun r => (nameRN r, .loc (.R r))) ++
    [(nameDptr, .dptr), (['A', 'B'], .pairAB), (['C'], .flagC), (nameIndDptr, .indDptr)] ++
    allRI.map (fun i => (nameInd i, .indR i))

/-- The names of core51 that no instruction is known to accept (R181 step 2), but for the `@` tokens. -/
def refusedNames51 : List Token :=
  [['P', 'C'], ['S', 'P'], ['P', 'S', 'W'], ['A', 'C', 'C'], ['D', 'P', 'H'], ['D', 'P', 'L'],
    ['P', '0'], ['P', '1'], ['P', '2'], ['P', '3']]

/-- Is the token a refused name of core51: a listed name, or any other token that begins with `@` (R181
step 2)? -/
def isRefusedName51 (t : Token) : Bool := refusedNames51.contains t || t.head? == some '@'

/-- Is the token a register or operand name of the architecture, admitted or refused (R85, R98)? -/
def isName : Arch → Token → Bool
  | .core86, t => (names86.lookup t).isSome || refusedNames86.contains t
  | .core51, t => (names51.lookup t).isSome || isRefusedName51 t

/-! ### Numerals -/

/-- The value of a digit: `0` to `9`, and `A` to `F` in upper case only (R84). -/
def digitVal (c : Char) : Option Nat :=
  if 48 ≤ c.toNat ∧ c.toNat ≤ 57 then some (c.toNat - 48)
  else if 65 ≤ c.toNat ∧ c.toNat ≤ 70 then some (c.toNat - 55)
  else none

/-- The value of a digit that is valid in the radix (R84). -/
def radixDigit (radix : Nat) (c : Char) : Option Nat :=
  match digitVal c with
  | some d => if d < radix then some d else none
  | none => none

/-- The value of a run of digits after the value read so far; `none` at the first invalid digit. -/
def digitsFrom (radix acc : Nat) : List Char → Option Nat
  | [] => some acc
  | c :: rest =>
    match radixDigit radix c with
    | some d => digitsFrom radix (acc * radix + d) rest
    | none => none

/-- What `lit` answers of a token it does not refuse (R85). -/
inductive LitValue where
  | value (n : Nat)
  | zero
deriving DecidableEq, Repr

/-- A lower-case letter (R83). -/
def isLowerLetter (c : Char) : Bool := decide (97 ≤ c.toNat ∧ c.toNat ≤ 122)

/-- The token without its immediate marker (R84). -/
def stripMarker (t : Token) : Token :=
  match t with
  | '#' :: rest => rest
  | _ => t

/-- Is the first character the immediate marker? -/
def hasMarker (t : Token) : Bool := t.head? == some '#'

/-- Does the body begin with the hexadecimal prefix `0x` or `0X` (R84 case 1)? -/
def hasHexMark (body : Token) : Bool := body.take 2 == ['0', 'x'] || body.take 2 == ['0', 'X']

/-- The token without marker and hexadecimal prefix. -/
def stripHexMark (t : Token) : Token :=
  if hasHexMark (stripMarker t) then (stripMarker t).drop 2 else stripMarker t

/-- Does the token hold a lower-case letter other than the `x` of a leading `0x` (R83)? -/
def hasLowerCase (t : Token) : Bool := (stripHexMark t).any isLowerLetter

/-- The default radix: decimal on core86, hexadecimal on core51 (R84 case 4, R271). -/
def defaultRadix : Arch → Nat
  | .core86 => 10
  | .core51 => 16

/-- A body whose radix a prefix or suffix decides: fully valid or refused (R85). -/
def strictBody (t : Token) (radix : Nat) (body : List Char) : Except Refusal LitValue :=
  if body.isEmpty then .error (.refusedNumeral t)
  else
    match digitsFrom radix 0 body with
    | some n => .ok (.value n)
    | none => .error (.refusedNumeral t)

/-- A body in the default radix: a value, the NaN fallback 0 when it has no valid leading digit, or
refused when it is only partly valid (R85, R244). -/
def defaultBody (t : Token) (radix : Nat) (body : List Char) : Except Refusal LitValue :=
  match body with
  | [] => .ok .zero
  | c :: _ =>
    match digitsFrom radix 0 body with
    | some n => .ok (.value n)
    | none => if (radixDigit radix c).isNone then .ok .zero else .error (.refusedNumeral t)

/-- `lit(arch, t)` (R83 to R85): the checks, then the four cases of the grammar in MPMC's order. DESIGN
CHOICE, safe: the prose after R181 says that 171 is written `0AB` on core51, while case 3 of R84 takes that
token's final B for the binary suffix, and R85 (a) then refuses the body `0A`; the model follows R84 and
R85 and refuses `0AB` (assumption log 27). -/
def lit (a : Arch) (t : Token) : Except Refusal LitValue :=
  let body := stripMarker t
  if hasLowerCase t then .error (.lowerCaseToken t)
  else if hasMarker t && isName a body then .error (.refusedNumeral t)
  else if body.head? == some '-' || body.head? == some '+' then .error (.refusedNumeral t)
  else if hasHexMark body then strictBody t 16 (body.drop 2)
  else if body.getLast? == some 'H' then strictBody t 16 body.dropLast
  else if body.getLast? == some 'B' then strictBody t 2 body.dropLast
  else defaultBody t (defaultRadix a) body

/-- The number a literal stands for: `Zero` is 0 (R85, R244). -/
def LitValue.toNat : LitValue → Nat
  | .value n => n
  | .zero => 0

/-- The upper-case hexadecimal digit of a number below 16. -/
def hexDigit (d : Nat) : Char := if d < 10 then Char.ofNat (48 + d) else Char.ofNat (55 + d)

/-- The last `k` hexadecimal digits of a number, most significant first. -/
def hexDigits : Nat → Nat → List Char
  | 0, _ => []
  | k + 1, n => hexDigits k (n / 16) ++ [hexDigit (n % 16)]

/-- `0x` and `k` upper-case hexadecimal digits (R96). -/
def hexNumeral (k n : Nat) : Token := '0' :: 'x' :: hexDigits k n

/-- How many hexadecimal digits a number needs. -/
def hexLength (n : Nat) : Nat := Nat.log2 n / 4 + 1

/-! ### The line parser -/

/-- The text of a line before its comment marker `;` (R81 step 2, R82). -/
def beforeComment (line : List Char) : List Char := line.takeWhile (fun c => c != ';')

/-- A token without white space at its ends (R81 step 4). -/
def trim (t : List Char) : List Char :=
  ((t.dropWhile Char.isWhitespace).reverse.dropWhile Char.isWhitespace).reverse

/-- The pieces of a text between separators. -/
def splitChars (sep : Char → Bool) : List Char → List (List Char)
  | [] => [[]]
  | c :: rest =>
    if sep c then [] :: splitChars sep rest
    else
      match splitChars sep rest with
      | [] => [[c]]
      | piece :: pieces => (c :: piece) :: pieces

/-- The white-space-delimited words of a text. -/
def words (t : List Char) : List Token := (splitChars Char.isWhitespace t).filter (fun w => !w.isEmpty)

/-- Words joined by one space (assumption log 8). -/
def joinWords : List Token → List Char
  | [] => []
  | [w] => w
  | w :: rest => w ++ ' ' :: joinWords rest

/-- The operands of the text after the mnemonic: split on commas, each trimmed; none for an empty text
(R81 steps 4, 5). -/
def splitOperands (t : List Char) : List Token :=
  if t.isEmpty then [] else (splitChars (fun c => c == ',') t).map trim

/-- `parseLine(text)` (R81): `none` for a blank or comment-only line. -/
def parseLine (line : List Char) : Option Record :=
  match words (beforeComment line) with
  | [] => none
  | m :: rest => some { mnemonic := m.map Char.toUpper, operands := splitOperands (joinWords rest) }

/-- The source lines of a text (R97). -/
def sourceLines (text : List Char) : List (List Char) := splitChars (fun c => c == '\n') text

/-- The parsed records of numbered lines, those that are not null, each with its line number. -/
def parseLinesFrom (n : Nat) : List (List Char) → List Record
  | [] => []
  | line :: rest =>
    match parseLine line with
    | some r => { r with sourceLine := some n } :: parseLinesFrom (n + 1) rest
    | none => parseLinesFrom (n + 1) rest

/-- The listing a run iterates: one record per source line that is not null, in source order (R266). -/
def listingOf (text : List Char) : List Record := parseLinesFrom 1 (sourceLines text)

end Sys2Proof.Machine
end

