-- ==== Sys2Proof/Machine/Classify.lean ====
section
/-! DEFINITION. From a parsed record to an instruction: the dispatch on the mnemonic (spec
40_x86_data_alu.md R130; 42_i51_data.md R180), the operand classifiers `cls86` and `cls51` (R131, R181),
the admitted operand shapes (R134, R194), and the way back, the record an instruction is written as. -/

set_option autoImplicit false

namespace Sys2Proof.Machine

/-- The mnemonics core86 answers (R130). -/
def mnemonics86 : List (Token × Mnem86) :=
  [(['M', 'O', 'V'], .mov), (['A', 'D', 'D'], .add), (['S', 'U', 'B'], .sub), (['C', 'M', 'P'], .cmp),
    (['I', 'N', 'C'], .inc), (['D', 'E', 'C'], .dec), (['A', 'N', 'D'], .and), (['O', 'R'], .or),
    (['X', 'O', 'R'], .xor), (['J', 'M', 'P'], .jmp), (['J', 'E'], .je), (['J', 'Z'], .jz),
    (['J', 'N', 'E'], .jne), (['J', 'N', 'Z'], .jnz), (['H', 'L', 'T'], .hlt), (['D', 'I', 'V'], .div)]

/-- The mnemonics core51 answers (R180). -/
def mnemonics51 : List (Token × Mnem51) :=
  [(['M', 'O', 'V'], .mov), (['M', 'O', 'V', 'X'], .movx), (['I', 'N', 'C'], .inc), (['D', 'E', 'C'], .dec),
    (['M', 'U', 'L'], .mul), (['D', 'I', 'V'], .div), (['R', 'L', 'C'], .rlc), (['R', 'R', 'C'], .rrc),
    (['C', 'L', 'R'], .clr), (['S', 'E', 'T', 'B'], .setb), (['C', 'P', 'L'], .cpl),
    (['S', 'J', 'M', 'P'], .sjmp), (['J', 'Z'], .jz), (['J', 'N', 'Z'], .jnz), (['J', 'C'], .jc),
    (['J', 'N', 'C'], .jnc)]

/-- `cls86(t)` (R131): 8-bit names, 16-bit names, refused names, then the literal. -/
def cls86 (t : Token) : Except Refusal Opd86 :=
  match names86.lookup t with
  | some c => .ok c
  | none =>
    if refusedNames86.contains t then .error (.refusedName t)
    else
      match lit .core86 t with
      | .ok v => .ok (.lit v.toNat)
      | .error e => .error e

/-- `cls51(t)` (R181): names, refused names, `#` immediates, then bare literals. -/
def cls51 (t : Token) : Except Refusal Cls51 :=
  match names51.lookup t with
  | some c => .ok c
  | none =>
    if isRefusedName51 t then .error (.refusedName t)
    else
      match lit .core51 t with
      | .ok v => .ok (if hasMarker t then .imm v.toNat else .bare v.toNat)
      | .error e => .error e

/-- Classify operands from left to right; the first refusal is the answer (R246). -/
def clsAll {α : Type} (cls : Token → Except Refusal α) : List Token → Except Refusal (List α)
  | [] => .ok []
  | t :: rest =>
    match cls t with
    | .error e => .error e
    | .ok c =>
      match clsAll cls rest with
      | .error e => .error e
      | .ok cs => .ok (c :: cs)

/-- A classified operand as a destination, if it is writable (R133). -/
def asDst86 : Opd86 → Option Dst86
  | .r8 r => some (.r8 r)
  | .r16 r => some (.r16 r)
  | .lit _ => none

/-- A two-operand core86 instruction: the row that encodes the operands, or else the execute-only form
(R113, R134). -/
def pairForm86 (ri : R16 → Word → Instr) (bi : R8 → Byte → Instr) (rr : R16 → R16 → Instr)
    (bb : R8 → R8 → Instr) (other : Dst86 → Opd86 → Instr) (d : Dst86) (src : Opd86) : Instr :=
  match d, src with
  | .r16 x, .lit n => if n < 2 ^ 16 then ri x (BitVec.ofNat 16 n) else other d src
  | .r8 x, .lit n => if n < 2 ^ 8 then bi x (BitVec.ofNat 8 n) else other d src
  | .r16 x, .r16 y => rr x y
  | .r8 x, .r8 y => bb x y
  | .r16 _, .r8 _ => other d src
  | .r8 _, .r16 _ => other d src

/-- A core86 jump with an 8-bit field (R161 to R164): the row, or the form wider than the field. -/
def jump8Form86 (row : Byte → Instr) (wide : Nat → Instr) (n : Nat) : Instr :=
  if n < 2 ^ 8 then row (BitVec.ofNat 8 n) else wide n

/-- A mnemonic with two operands, the first a destination (R134). -/
def dstForm86 (make : Dst86 → Opd86 → Instr) : List Opd86 → Option Instr
  | [l, r] => (asDst86 l).map (fun d => make d r)
  | _ => none

/-- CMP: either operand may be a literal (R134, R141). -/
def cmpForm86 (l r : Opd86) : Instr :=
  match asDst86 l with
  | some d => pairForm86 .x86CmpR16Imm16 .x86CmpR8Imm8 .x86CmpR16R16 .x86CmpR8R8 (fun _ _ => .x86CmpForm l r) d r
  | none => .x86CmpForm l r

/-- INC, DEC: one register (R134). -/
def unaryForm86 (r16 : R16 → Instr) (r8 : R8 → Instr) : List Opd86 → Option Instr
  | [.r16 r] => some (r16 r)
  | [.r8 r] => some (r8 r)
  | _ => none

/-- A jump: one literal (R134, R170). -/
def jumpForm86 (make : Nat → Instr) : List Opd86 → Option Instr
  | [.lit n] => some (make n)
  | _ => none

/-- The admitted operand shapes of core86 (R134): the instruction a mnemonic with classified operands is,
or `none` for a form outside the table. DIV takes any operands (R166). -/
def form86 (m : Mnem86) (ops : List Opd86) : Option Instr :=
  match m with
  | .mov => dstForm86 (pairForm86 .x86MovR16Imm16 .x86MovR8Imm8 .x86MovR16R16 .x86MovR8R8 .x86MovForm) ops
  | .add => dstForm86 (pairForm86 .x86AddR16Imm16 .x86AddR8Imm8 .x86AddR16R16 .x86AddR8R8 .x86AddForm) ops
  | .sub => dstForm86 (pairForm86 .x86SubR16Imm16 .x86SubR8Imm8 .x86SubR16R16 .x86SubR8R8 .x86SubForm) ops
  | .cmp =>
    match ops with
    | [l, r] => some (cmpForm86 l r)
    | _ => none
  | .inc => unaryForm86 .x86IncR16 .x86IncR8 ops
  | .dec => unaryForm86 .x86DecR16 .x86DecR8 ops
  | .and => dstForm86 (pairForm86 .x86AndR16Imm16 .x86AndR8Imm8 .x86AndR16R16 .x86AndR8R8 .x86AndForm) ops
  | .or => dstForm86 (pairForm86 .x86OrR16Imm16 .x86OrR8Imm8 .x86OrR16R16 .x86OrR8R8 .x86OrForm) ops
  | .xor => dstForm86 (pairForm86 .x86XorR16Imm16 .x86XorR8Imm8 .x86XorR16R16 .x86XorR8R8 .x86XorForm) ops
  | .jmp => jumpForm86 (fun n => if n < 2 ^ 16 then .x86Jmp (BitVec.ofNat 16 n) else .x86JmpLit n) ops
  | .je => jumpForm86 (jump8Form86 .x86Je .x86JeLit) ops
  | .jz => jumpForm86 (jump8Form86 .x86Jz .x86JzLit) ops
  | .jne => jumpForm86 (jump8Form86 .x86Jne .x86JneLit) ops
  | .jnz => jumpForm86 (jump8Form86 .x86Jnz .x86JnzLit) ops
  | .hlt => if ops.isEmpty then some .x86Hlt else none
  | .div => some .x86Div

/-- The 8-bit MOV of core51 (R184, R194): the row that encodes the operands, or the execute-only form. -/
def movForm51 (d : Loc51) (src : Src51) : Instr :=
  match d, src with
  | .A, .imm n => if n < 2 ^ 8 then .i51MovAImm (BitVec.ofNat 8 n) else .i51MovForm d src
  | .B, .imm n => if n < 2 ^ 8 then .i51MovBImm (BitVec.ofNat 8 n) else .i51MovForm d src
  | .R r, .imm n => if n < 2 ^ 8 then .i51MovRnImm r (BitVec.ofNat 8 n) else .i51MovForm d src
  | .A, .loc (.R r) => .i51MovARn r
  | .R r, .loc .A => .i51MovRnA r
  | .A, .loc .B => .i51MovAB
  | .B, .loc .A => .i51MovBA
  | .B, .loc (.R r) => .i51MovBRn r
  | .R r, .loc .B => .i51MovRnB r
  | .A, .loc .A => .i51MovForm d src
  | .B, .loc .B => .i51MovForm d src
  | .R _, .loc (.R _) => .i51MovForm d src

/-- INC, DEC of core51 (R190 to R194). -/
def stepForm51 (a b : Instr) (r : RN → Instr) (dptr : Instr) : List Cls51 → Option Instr
  | [.loc .A] => some a
  | [.loc .B] => some b
  | [.loc (.R n)] => some (r n)
  | [.dptr] => some dptr
  | _ => none

/-- A core51 jump: one literal, bare or with `#` (R194, R220); the row, or the form wider than its field. -/
def jumpForm51 (row : Byte → Instr) (wide : Nat → Instr) : List Cls51 → Option Instr
  | [.bare n] => some (if n < 2 ^ 8 then row (BitVec.ofNat 8 n) else wide n)
  | [.imm n] => some (if n < 2 ^ 8 then row (BitVec.ofNat 8 n) else wide n)
  | _ => none

/-- The one operand an instruction of core51 admits, and nothing else (R194). -/
def only51 (c : Cls51) (i : Instr) (ops : List Cls51) : Option Instr := if ops = [c] then some i else none

/-- The admitted operand shapes of core51 (R194). -/
def form51 (m : Mnem51) (ops : List Cls51) : Option Instr :=
  match m with
  | .mov =>
    match ops with
    | [.loc d, .imm n] => some (movForm51 d (.imm n))
    | [.loc d, .loc l] => some (movForm51 d (.loc l))
    | [.dptr, .imm n] => some (if n < 2 ^ 16 then .i51MovDptrImm (BitVec.ofNat 16 n) else .i51MovDptrLit n)
    | _ => none
  | .movx =>
    match ops with
    | [.loc .A, .indDptr] => some .i51MovxADptr
    | [.indDptr, .loc .A] => some .i51MovxDptrA
    | [.loc .A, .indR i] => some (.i51MovxARi i)
    | [.indR i, .loc .A] => some (.i51MovxRiA i)
    | _ => none
  | .inc => stepForm51 .i51IncA .i51IncB .i51IncRn .i51IncDptr ops
  | .dec => stepForm51 .i51DecA .i51DecB .i51DecRn .i51DecDptr ops
  | .mul => only51 .pairAB .i51MulAB ops
  | .div => only51 .pairAB .i51DivAB ops
  | .rlc => only51 (.loc .A) .i51RlcA ops
  | .rrc => only51 (.loc .A) .i51RrcA ops
  | .clr => only51 .flagC .i51ClrC ops
  | .setb => only51 .flagC .i51SetbC ops
  | .cpl => only51 .flagC .i51CplC ops
  | .sjmp => jumpForm51 .i51Sjmp .i51SjmpLit ops
  | .jz => jumpForm51 .i51Jz .i51JzLit ops
  | .jnz => jumpForm51 .i51Jnz .i51JnzLit ops
  | .jc => jumpForm51 .i51Jc .i51JcLit ops
  | .jnc => jumpForm51 .i51Jnc .i51JncLit ops

/-- The instruction a record is on core86 (R130). The mnemonic is examined first: DIV before any operand
is looked at (R246). -/
def resolve86 (r : Record) : Except Refusal Instr :=
  match mnemonics86.lookup r.mnemonic with
  | none => .error (.unlistedMnemonic .core86 r.mnemonic)
  | some .div => .ok .x86Div
  | some m =>
    match clsAll cls86 r.operands with
    | .error e => .error e
    | .ok ops =>
      match form86 m ops with
      | some i => .ok i
      | none => .error (.inadmissibleForm .core86 r.mnemonic)

/-- The instruction a record is on core51 (R180). -/
def resolve51 (r : Record) : Except Refusal Instr :=
  match mnemonics51.lookup r.mnemonic with
  | none => .error (.unlistedMnemonic .core51 r.mnemonic)
  | some m =>
    match clsAll cls51 r.operands with
    | .error e => .error e
    | .ok ops =>
      match form51 m ops with
      | some i => .ok i
      | none => .error (.inadmissibleForm .core51 r.mnemonic)

/-- The instruction a record is on a core, or the reason it has no meaning there (R130, R180). -/
def resolve : Arch → Record → Except Refusal Instr
  | .core86, r => resolve86 r
  | .core51, r => resolve51 r

/-! ### The record an instruction is written as -/

/-- An immediate of a field of `k` hexadecimal digits, with its marker (R96, R112). -/
def immToken (k n : Nat) : Token := '#' :: hexNumeral k n

/-- A core86 operand as a token. -/
def opdToken86 : Opd86 → Token
  | .r8 r => nameR8 r
  | .r16 r => nameR16 r
  | .lit n => immToken (hexLength n) n

/-- The source of an 8-bit core51 MOV as a token. -/
def srcToken51 : Src51 → Token
  | .loc l => nameLoc51 l
  | .imm n => immToken (hexLength n) n

/-- A core86 destination as a token. -/
def dstToken86 : Dst86 → Token
  | .r8 r => nameR8 r
  | .r16 r => nameR16 r

/-- A jump target of any magnitude as a token. -/
def targetToken (n : Nat) : Token := hexNumeral (hexLength n) n

/-- The parsed record of an instruction: its mnemonic and operand tokens, numerals as R96 writes them. -/
def instrRecord : Instr → Record
  | .x86MovR16Imm16 r n => { mnemonic := ['M', 'O', 'V'], operands := [nameR16 r, immToken 4 n.toNat] }
  | .x86MovR8Imm8 r n => { mnemonic := ['M', 'O', 'V'], operands := [nameR8 r, immToken 2 n.toNat] }
  | .x86MovR16R16 d s => { mnemonic := ['M', 'O', 'V'], operands := [nameR16 d, nameR16 s] }
  | .x86MovR8R8 d s => { mnemonic := ['M', 'O', 'V'], operands := [nameR8 d, nameR8 s] }
  | .x86AddR16Imm16 r n => { mnemonic := ['A', 'D', 'D'], operands := [nameR16 r, immToken 4 n.toNat] }
  | .x86AddR8Imm8 r n => { mnemonic := ['A', 'D', 'D'], operands := [nameR8 r, immToken 2 n.toNat] }
  | .x86AddR16R16 d s => { mnemonic := ['A', 'D', 'D'], operands := [nameR16 d, nameR16 s] }
  | .x86AddR8R8 d s => { mnemonic := ['A', 'D', 'D'], operands := [nameR8 d, nameR8 s] }
  | .x86SubR16Imm16 r n => { mnemonic := ['S', 'U', 'B'], operands := [nameR16 r, immToken 4 n.toNat] }
  | .x86SubR8Imm8 r n => { mnemonic := ['S', 'U', 'B'], operands := [nameR8 r, immToken 2 n.toNat] }
  | .x86SubR16R16 d s => { mnemonic := ['S', 'U', 'B'], operands := [nameR16 d, nameR16 s] }
  | .x86SubR8R8 d s => { mnemonic := ['S', 'U', 'B'], operands := [nameR8 d, nameR8 s] }
  | .x86CmpR16Imm16 r n => { mnemonic := ['C', 'M', 'P'], operands := [nameR16 r, immToken 4 n.toNat] }
  | .x86CmpR8Imm8 r n => { mnemonic := ['C', 'M', 'P'], operands := [nameR8 r, immToken 2 n.toNat] }
  | .x86CmpR16R16 d s => { mnemonic := ['C', 'M', 'P'], operands := [nameR16 d, nameR16 s] }
  | .x86CmpR8R8 d s => { mnemonic := ['C', 'M', 'P'], operands := [nameR8 d, nameR8 s] }
  | .x86IncR16 r => { mnemonic := ['I', 'N', 'C'], operands := [nameR16 r] }
  | .x86IncR8 r => { mnemonic := ['I', 'N', 'C'], operands := [nameR8 r] }
  | .x86DecR16 r => { mnemonic := ['D', 'E', 'C'], operands := [nameR16 r] }
  | .x86DecR8 r => { mnemonic := ['D', 'E', 'C'], operands := [nameR8 r] }
  | .x86AndR16Imm16 r n => { mnemonic := ['A', 'N', 'D'], operands := [nameR16 r, immToken 4 n.toNat] }
  | .x86AndR8Imm8 r n => { mnemonic := ['A', 'N', 'D'], operands := [nameR8 r, immToken 2 n.toNat] }
  | .x86AndR16R16 d s => { mnemonic := ['A', 'N', 'D'], operands := [nameR16 d, nameR16 s] }
  | .x86AndR8R8 d s => { mnemonic := ['A', 'N', 'D'], operands := [nameR8 d, nameR8 s] }
  | .x86OrR16Imm16 r n => { mnemonic := ['O', 'R'], operands := [nameR16 r, immToken 4 n.toNat] }
  | .x86OrR8Imm8 r n => { mnemonic := ['O', 'R'], operands := [nameR8 r, immToken 2 n.toNat] }
  | .x86OrR16R16 d s => { mnemonic := ['O', 'R'], operands := [nameR16 d, nameR16 s] }
  | .x86OrR8R8 d s => { mnemonic := ['O', 'R'], operands := [nameR8 d, nameR8 s] }
  | .x86XorR16Imm16 r n => { mnemonic := ['X', 'O', 'R'], operands := [nameR16 r, immToken 4 n.toNat] }
  | .x86XorR8Imm8 r n => { mnemonic := ['X', 'O', 'R'], operands := [nameR8 r, immToken 2 n.toNat] }
  | .x86XorR16R16 d s => { mnemonic := ['X', 'O', 'R'], operands := [nameR16 d, nameR16 s] }
  | .x86XorR8R8 d s => { mnemonic := ['X', 'O', 'R'], operands := [nameR8 d, nameR8 s] }
  | .x86Jmp t => { mnemonic := ['J', 'M', 'P'], operands := [hexNumeral 4 t.toNat] }
  | .x86Je t => { mnemonic := ['J', 'E'], operands := [hexNumeral 2 t.toNat] }
  | .x86Jz t => { mnemonic := ['J', 'Z'], operands := [hexNumeral 2 t.toNat] }
  | .x86Jne t => { mnemonic := ['J', 'N', 'E'], operands := [hexNumeral 2 t.toNat] }
  | .x86Jnz t => { mnemonic := ['J', 'N', 'Z'], operands := [hexNumeral 2 t.toNat] }
  | .x86Hlt => { mnemonic := ['H', 'L', 'T'], operands := [] }
  | .i51MovAImm n => { mnemonic := ['M', 'O', 'V'], operands := [['A'], immToken 2 n.toNat] }
  | .i51MovBImm n => { mnemonic := ['M', 'O', 'V'], operands := [['B'], immToken 2 n.toNat] }
  | .i51MovRnImm r n => { mnemonic := ['M', 'O', 'V'], operands := [nameRN r, immToken 2 n.toNat] }
  | .i51MovDptrImm n => { mnemonic := ['M', 'O', 'V'], operands := [nameDptr, immToken 4 n.toNat] }
  | .i51MovARn r => { mnemonic := ['M', 'O', 'V'], operands := [['A'], nameRN r] }
  | .i51MovRnA r => { mnemonic := ['M', 'O', 'V'], operands := [nameRN r, ['A']] }
  | .i51MovAB => { mnemonic := ['M', 'O', 'V'], operands := [['A'], ['B']] }
  | .i51MovBA => { mnemonic := ['M', 'O', 'V'], operands := [['B'], ['A']] }
  | .i51MovBRn r => { mnemonic := ['M', 'O', 'V'], operands := [['B'], nameRN r] }
  | .i51MovRnB r => { mnemonic := ['M', 'O', 'V'], operands := [nameRN r, ['B']] }
  | .i51MovxADptr => { mnemonic := ['M', 'O', 'V', 'X'], operands := [['A'], nameIndDptr] }
  | .i51MovxDptrA => { mnemonic := ['M', 'O', 'V', 'X'], operands := [nameIndDptr, ['A']] }
  | .i51MovxARi i => { mnemonic := ['M', 'O', 'V', 'X'], operands := [['A'], nameInd i] }
  | .i51MovxRiA i => { mnemonic := ['M', 'O', 'V', 'X'], operands := [nameInd i, ['A']] }
  | .i51IncA => { mnemonic := ['I', 'N', 'C'], operands := [['A']] }
  | .i51IncB => { mnemonic := ['I', 'N', 'C'], operands := [['B']] }
  | .i51IncRn r => { mnemonic := ['I', 'N', 'C'], operands := [nameRN r] }
  | .i51IncDptr => { mnemonic := ['I', 'N', 'C'], operands := [nameDptr] }
  | .i51DecA => { mnemonic := ['D', 'E', 'C'], operands := [['A']] }
  | .i51DecB => { mnemonic := ['D', 'E', 'C'], operands := [['B']] }
  | .i51DecRn r => { mnemonic := ['D', 'E', 'C'], operands := [nameRN r] }
  | .i51DecDptr => { mnemonic := ['D', 'E', 'C'], operands := [nameDptr] }
  | .i51MulAB => { mnemonic := ['M', 'U', 'L'], operands := [['A', 'B']] }
  | .i51DivAB => { mnemonic := ['D', 'I', 'V'], operands := [['A', 'B']] }
  | .i51RlcA => { mnemonic := ['R', 'L', 'C'], operands := [['A']] }
  | .i51RrcA => { mnemonic := ['R', 'R', 'C'], operands := [['A']] }
  | .i51ClrC => { mnemonic := ['C', 'L', 'R'], operands := [['C']] }
  | .i51SetbC => { mnemonic := ['S', 'E', 'T', 'B'], operands := [['C']] }
  | .i51CplC => { mnemonic := ['C', 'P', 'L'], operands := [['C']] }
  | .i51Sjmp t => { mnemonic := ['S', 'J', 'M', 'P'], operands := [hexNumeral 2 t.toNat] }
  | .i51Jz t => { mnemonic := ['J', 'Z'], operands := [hexNumeral 2 t.toNat] }
  | .i51Jnz t => { mnemonic := ['J', 'N', 'Z'], operands := [hexNumeral 2 t.toNat] }
  | .i51Jc t => { mnemonic := ['J', 'C'], operands := [hexNumeral 2 t.toNat] }
  | .i51Jnc t => { mnemonic := ['J', 'N', 'C'], operands := [hexNumeral 2 t.toNat] }
  | .x86MovForm d src => { mnemonic := ['M', 'O', 'V'], operands := [dstToken86 d, opdToken86 src] }
  | .x86AddForm d src => { mnemonic := ['A', 'D', 'D'], operands := [dstToken86 d, opdToken86 src] }
  | .x86SubForm d src => { mnemonic := ['S', 'U', 'B'], operands := [dstToken86 d, opdToken86 src] }
  | .x86CmpForm l r => { mnemonic := ['C', 'M', 'P'], operands := [opdToken86 l, opdToken86 r] }
  | .x86AndForm d src => { mnemonic := ['A', 'N', 'D'], operands := [dstToken86 d, opdToken86 src] }
  | .x86OrForm d src => { mnemonic := ['O', 'R'], operands := [dstToken86 d, opdToken86 src] }
  | .x86XorForm d src => { mnemonic := ['X', 'O', 'R'], operands := [dstToken86 d, opdToken86 src] }
  | .x86JmpLit n => { mnemonic := ['J', 'M', 'P'], operands := [targetToken n] }
  | .x86JeLit n => { mnemonic := ['J', 'E'], operands := [targetToken n] }
  | .x86JzLit n => { mnemonic := ['J', 'Z'], operands := [targetToken n] }
  | .x86JneLit n => { mnemonic := ['J', 'N', 'E'], operands := [targetToken n] }
  | .x86JnzLit n => { mnemonic := ['J', 'N', 'Z'], operands := [targetToken n] }
  | .x86Div => { mnemonic := ['D', 'I', 'V'], operands := [] }
  | .i51MovForm d src => { mnemonic := ['M', 'O', 'V'], operands := [nameLoc51 d, srcToken51 src] }
  | .i51MovDptrLit n => { mnemonic := ['M', 'O', 'V'], operands := [nameDptr, immToken (hexLength n) n] }
  | .i51SjmpLit n => { mnemonic := ['S', 'J', 'M', 'P'], operands := [targetToken n] }
  | .i51JzLit n => { mnemonic := ['J', 'Z'], operands := [targetToken n] }
  | .i51JnzLit n => { mnemonic := ['J', 'N', 'Z'], operands := [targetToken n] }
  | .i51JcLit n => { mnemonic := ['J', 'C'], operands := [targetToken n] }
  | .i51JncLit n => { mnemonic := ['J', 'N', 'C'], operands := [targetToken n] }

end Sys2Proof.Machine
end

