-- ==== Sys2Proof/WellFormed.lean ====
section
/-! DEFINITION. Well-formed instructions. A row's constructor holds exactly the operands its fields can hold
(spec 30_encoding.md R89, R105), so it is well-formed as it stands. An execute-only constructor is
well-formed when no row encodes its operands (R113): each instruction then has one way to be written. -/

set_option autoImplicit false

namespace Sys2Proof

/-- Does a row encode these two operands of a core86 mnemonic: one width, and a literal that fits (R106)? -/
def encodable86 (d : Dst86) (src : Opd86) : Bool :=
  match d, src with
  | .r16 _, .r16 _ => true
  | .r8 _, .r8 _ => true
  | .r16 _, .lit n => decide (n < 2 ^ 16)
  | .r8 _, .lit n => decide (n < 2 ^ 8)
  | .r16 _, .r8 _ => false
  | .r8 _, .r16 _ => false

/-- Does a row encode these two operands of CMP (rows X13 to X16)? A literal first operand has no row. -/
def encodableCmp86 (l r : Opd86) : Bool :=
  match l with
  | .r8 x => encodable86 (.r8 x) r
  | .r16 x => encodable86 (.r16 x) r
  | .lit _ => false

/-- Does a row encode these two operands of the 8-bit MOV of core51 (rows Y1 to Y3, Y5 to Y10)? -/
def encodable51 (d : Loc51) (src : Src51) : Bool :=
  match d, src with
  | _, .imm n => decide (n < 2 ^ 8)
  | .A, .loc .A => false
  | .B, .loc .B => false
  | .R _, .loc (.R _) => false
  | .A, .loc .B => true
  | .A, .loc (.R _) => true
  | .B, .loc .A => true
  | .B, .loc (.R _) => true
  | .R _, .loc .A => true
  | .R _, .loc .B => true

/-- The well-formedness check. -/
def wellFormed : Instr → Bool
  | .x86MovR16Imm16 .. => true
  | .x86MovR8Imm8 .. => true
  | .x86MovR16R16 .. => true
  | .x86MovR8R8 .. => true
  | .x86AddR16Imm16 .. => true
  | .x86AddR8Imm8 .. => true
  | .x86AddR16R16 .. => true
  | .x86AddR8R8 .. => true
  | .x86SubR16Imm16 .. => true
  | .x86SubR8Imm8 .. => true
  | .x86SubR16R16 .. => true
  | .x86SubR8R8 .. => true
  | .x86CmpR16Imm16 .. => true
  | .x86CmpR8Imm8 .. => true
  | .x86CmpR16R16 .. => true
  | .x86CmpR8R8 .. => true
  | .x86IncR16 .. => true
  | .x86IncR8 .. => true
  | .x86DecR16 .. => true
  | .x86DecR8 .. => true
  | .x86AndR16Imm16 .. => true
  | .x86AndR8Imm8 .. => true
  | .x86AndR16R16 .. => true
  | .x86AndR8R8 .. => true
  | .x86OrR16Imm16 .. => true
  | .x86OrR8Imm8 .. => true
  | .x86OrR16R16 .. => true
  | .x86OrR8R8 .. => true
  | .x86XorR16Imm16 .. => true
  | .x86XorR8Imm8 .. => true
  | .x86XorR16R16 .. => true
  | .x86XorR8R8 .. => true
  | .x86Jmp .. => true
  | .x86Je .. => true
  | .x86Jz .. => true
  | .x86Jne .. => true
  | .x86Jnz .. => true
  | .x86Hlt => true
  | .i51MovAImm .. => true
  | .i51MovBImm .. => true
  | .i51MovRnImm .. => true
  | .i51MovDptrImm .. => true
  | .i51MovARn .. => true
  | .i51MovRnA .. => true
  | .i51MovAB => true
  | .i51MovBA => true
  | .i51MovBRn .. => true
  | .i51MovRnB .. => true
  | .i51MovxADptr => true
  | .i51MovxDptrA => true
  | .i51MovxARi .. => true
  | .i51MovxRiA .. => true
  | .i51IncA => true
  | .i51IncB => true
  | .i51IncRn .. => true
  | .i51IncDptr => true
  | .i51DecA => true
  | .i51DecB => true
  | .i51DecRn .. => true
  | .i51DecDptr => true
  | .i51MulAB => true
  | .i51DivAB => true
  | .i51RlcA => true
  | .i51RrcA => true
  | .i51ClrC => true
  | .i51SetbC => true
  | .i51CplC => true
  | .i51Sjmp .. => true
  | .i51Jz .. => true
  | .i51Jnz .. => true
  | .i51Jc .. => true
  | .i51Jnc .. => true
  | .x86MovForm d src => !encodable86 d src
  | .x86AddForm d src => !encodable86 d src
  | .x86SubForm d src => !encodable86 d src
  | .x86CmpForm l r => !encodableCmp86 l r
  | .x86AndForm d src => !encodable86 d src
  | .x86OrForm d src => !encodable86 d src
  | .x86XorForm d src => !encodable86 d src
  | .x86JmpLit n => decide (2 ^ 16 ≤ n)
  | .x86JeLit n => decide (2 ^ 8 ≤ n)
  | .x86JzLit n => decide (2 ^ 8 ≤ n)
  | .x86JneLit n => decide (2 ^ 8 ≤ n)
  | .x86JnzLit n => decide (2 ^ 8 ≤ n)
  | .x86Div => true
  | .i51MovForm d src => !encodable51 d src
  | .i51MovDptrLit n => decide (2 ^ 16 ≤ n)
  | .i51SjmpLit n => decide (2 ^ 8 ≤ n)
  | .i51JzLit n => decide (2 ^ 8 ≤ n)
  | .i51JnzLit n => decide (2 ^ 8 ≤ n)
  | .i51JcLit n => decide (2 ^ 8 ≤ n)
  | .i51JncLit n => decide (2 ^ 8 ≤ n)

end Sys2Proof
end

