-- ==== Sys2Proof/Decode.lean ====
section
/-! DEFINITION. The opcode tables, the decoders DEC86 and DEC51, and after them the encoder (spec
30_encoding.md sections 3 to 6). The decoder is R92's: it compares the FIRST byte with each entry's first
lead byte, in declaration order, and nothing else; it is total and answers a byte that begins no entry
with the named marker `Decoded.unknown` (R93). The decoder does not feed the execution engine (R3); where
the model runs decoded bytes it composes the two itself, through the record the disassembly text spells
(`decodedRecord`; assumption log 5). -/

set_option autoImplicit false

namespace Sys2Proof

open Sys2Proof.Machine

/-! ### Fields -/

/-- The number of bytes of a placeholder (R89). -/
def placeholderSize : Placeholder → Nat
  | .imm8 => 1
  | .imm16 => 2
  | .direct => 1
  | .rel8 => 1
  | .rel16 => 2

/-- The number of bytes a template's placeholders take. -/
def templateSize : List Pattern → Nat
  | [] => 0
  | .fixed _ :: ps => templateSize ps
  | .field _ p :: ps => placeholderSize p + templateSize ps

/-- The well-formedness of a table entry: a non-empty lead, and the length agreement (R88, R91). -/
def entryWellFormed (e : Entry) : Bool :=
  !e.lead.isEmpty && decide (e.len = e.lead.length + templateSize e.template)

/-- Bytes as a number, the first byte least significant. -/
def littleValue : List Byte → Nat
  | [] => 0
  | b :: rest => b.toNat + 256 * littleValue rest

/-- The bytes of a placeholder as a number in the entry's byte order (R65, R90). -/
def fieldValue (big : Bool) (bs : List Byte) : Nat :=
  if big then littleValue bs.reverse else littleValue bs

/-- The low `k` bytes of a number, the least significant first. -/
def littleBytes : Nat → Nat → List Byte
  | 0, _ => []
  | k + 1, n => BitVec.ofNat 8 n :: littleBytes k (n / 256)

/-- The bytes of a placeholder's value in the entry's byte order (R99). -/
def fieldBytes (big : Bool) (k n : Nat) : List Byte :=
  if big then (littleBytes k n).reverse else littleBytes k n

/-- The values of a template's placeholders, from the bytes after the lead (R92). -/
def fieldValues (big : Bool) : List Pattern → List Byte → List Nat
  | [], _ => []
  | .fixed _ :: ps, bs => fieldValues big ps bs
  | .field _ p :: ps, bs =>
    fieldValue big (bs.take (placeholderSize p)) :: fieldValues big ps (bs.drop (placeholderSize p))

/-! ### The reference tables (R105 to R107) -/

/-- The entries of a table in declaration order (R91, R105). -/
def tableEntries (table : Table) : List Entry := table.flatten

/-- The number of a 16-bit register (R105). -/
def numR16 : R16 → Byte
  | .AX => 0
  | .CX => 1
  | .DX => 2
  | .BX => 3
  | .SP => 4
  | .BP => 5
  | .SI => 6
  | .DI => 7

/-- The number of an 8-bit register (R105). -/
def numR8 : R8 → Byte
  | .AL => 0
  | .CL => 1
  | .DL => 2
  | .BL => 3
  | .AH => 4
  | .CH => 5
  | .DH => 6
  | .BH => 7

/-- The number of an 8051 general register. -/
def numRN : RN → Byte
  | .R0 => 0
  | .R1 => 1
  | .R2 => 2
  | .R3 => 3
  | .R4 => 4
  | .R5 => 5
  | .R6 => 6
  | .R7 => 7

/-- The number of an indirect register. -/
def numRI : RI → Byte
  | .R0 => 0
  | .R1 => 1

/-- `modrm(x, y) = 0xC0 | (x << 3) | y` (R105). -/
def modrm (x y : Byte) : Byte := 0xC0#8 ||| (x <<< 3) ||| y

/-- Rows `m R16(r), #imm16`. -/
def rowR16Imm16 (m : Token) (lead : R16 → List Byte) (len : Nat) : List Entry :=
  allR16.map fun r =>
    { mnemonic := m, lead := lead r, len := len, template := [.fixed (nameR16 r), .field true .imm16] }

/-- Rows `m R8(r), #imm8`. -/
def rowR8Imm8 (m : Token) (lead : R8 → List Byte) (len : Nat) : List Entry :=
  allR8.map fun r =>
    { mnemonic := m, lead := lead r, len := len, template := [.fixed (nameR8 r), .field true .imm8] }

/-- Rows `m R16(d), R16(s)`: the destination outermost (R105). -/
def rowR16R16 (m : Token) (op : Byte) : List Entry :=
  allR16.flatMap fun d => allR16.map fun s =>
    { mnemonic := m, lead := [op, modrm (numR16 d) (numR16 s)], len := 2
      template := [.fixed (nameR16 d), .fixed (nameR16 s)] }

/-- Rows `m R8(d), R8(s)`: the destination outermost (R105). -/
def rowR8R8 (m : Token) (op : Byte) : List Entry :=
  allR8.flatMap fun d => allR8.map fun s =>
    { mnemonic := m, lead := [op, modrm (numR8 d) (numR8 s)], len := 2
      template := [.fixed (nameR8 d), .fixed (nameR8 s)] }

/-- Rows `m R16(r)`. -/
def rowR16 (m : Token) (lead : R16 → List Byte) (len : Nat) : List Entry :=
  allR16.map fun r => { mnemonic := m, lead := lead r, len := len, template := [.fixed (nameR16 r)] }

/-- Rows `m R8(r)`. -/
def rowR8 (m : Token) (lead : R8 → List Byte) (len : Nat) : List Entry :=
  allR8.map fun r => { mnemonic := m, lead := lead r, len := len, template := [.fixed (nameR8 r)] }

/-- Rows with one 8051 register Rn among the patterns. -/
def rowRN (m : Token) (lead : RN → List Byte) (len : Nat) (template : RN → List Pattern) : List Entry :=
  allRN.map fun r => { mnemonic := m, lead := lead r, len := len, template := template r }

/-- Rows with `@Ri` among the patterns. -/
def rowRI (m : Token) (lead : RI → List Byte) (template : RI → List Pattern) : List Entry :=
  allRI.map fun i => { mnemonic := m, lead := lead i, len := 1, template := template i }

/-- A row that is one entry. -/
def rowOne (m : Token) (lead : List Byte) (len : Nat) (template : List Pattern) : List Entry :=
  [{ mnemonic := m, lead := lead, len := len, template := template }]

/-- The reference `OPTAB86`, rows X1 to X38 in declaration order (R106). -/
def optab86 : Table :=
    [ /- X1 -/ rowR16Imm16 ['M', 'O', 'V'] (fun r => [0xB8 + numR16 r]) 3,
      /- X2 -/ rowR8Imm8 ['M', 'O', 'V'] (fun r => [0xB0 + numR8 r]) 2,
      /- X3 -/ rowR16R16 ['M', 'O', 'V'] 0x8B,
      /- X4 -/ rowR8R8 ['M', 'O', 'V'] 0x8A,
      /- X5 -/ rowR16Imm16 ['A', 'D', 'D'] (fun r => [0x81, modrm 0 (numR16 r)]) 4,
      /- X6 -/ rowR8Imm8 ['A', 'D', 'D'] (fun r => [0x80, modrm 0 (numR8 r)]) 3,
      /- X7 -/ rowR16R16 ['A', 'D', 'D'] 0x03,
      /- X8 -/ rowR8R8 ['A', 'D', 'D'] 0x02,
      /- X9 -/ rowR16Imm16 ['S', 'U', 'B'] (fun r => [0x81, modrm 5 (numR16 r)]) 4,
      /- X10 -/ rowR8Imm8 ['S', 'U', 'B'] (fun r => [0x80, modrm 5 (numR8 r)]) 3,
      /- X11 -/ rowR16R16 ['S', 'U', 'B'] 0x2B,
      /- X12 -/ rowR8R8 ['S', 'U', 'B'] 0x2A,
      /- X13 -/ rowR16Imm16 ['C', 'M', 'P'] (fun r => [0x81, modrm 7 (numR16 r)]) 4,
      /- X14 -/ rowR8Imm8 ['C', 'M', 'P'] (fun r => [0x80, modrm 7 (numR8 r)]) 3,
      /- X15 -/ rowR16R16 ['C', 'M', 'P'] 0x3B,
      /- X16 -/ rowR8R8 ['C', 'M', 'P'] 0x3A,
      /- X17 -/ rowR16 ['I', 'N', 'C'] (fun r => [0x40 + numR16 r]) 1,
      /- X18 -/ rowR8 ['I', 'N', 'C'] (fun r => [0xFE, modrm 0 (numR8 r)]) 2,
      /- X19 -/ rowR16 ['D', 'E', 'C'] (fun r => [0x48 + numR16 r]) 1,
      /- X20 -/ rowR8 ['D', 'E', 'C'] (fun r => [0xFE, modrm 1 (numR8 r)]) 2,
      /- X21 -/ rowR16Imm16 ['A', 'N', 'D'] (fun r => [0x81, modrm 4 (numR16 r)]) 4,
      /- X22 -/ rowR8Imm8 ['A', 'N', 'D'] (fun r => [0x80, modrm 4 (numR8 r)]) 3,
      /- X23 -/ rowR16R16 ['A', 'N', 'D'] 0x23,
      /- X24 -/ rowR8R8 ['A', 'N', 'D'] 0x22,
      /- X25 -/ rowR16Imm16 ['O', 'R'] (fun r => [0x81, modrm 1 (numR16 r)]) 4,
      /- X26 -/ rowR8Imm8 ['O', 'R'] (fun r => [0x80, modrm 1 (numR8 r)]) 3,
      /- X27 -/ rowR16R16 ['O', 'R'] 0x0B,
      /- X28 -/ rowR8R8 ['O', 'R'] 0x0A,
      /- X29 -/ rowR16Imm16 ['X', 'O', 'R'] (fun r => [0x81, modrm 6 (numR16 r)]) 4,
      /- X30 -/ rowR8Imm8 ['X', 'O', 'R'] (fun r => [0x80, modrm 6 (numR8 r)]) 3,
      /- X31 -/ rowR16R16 ['X', 'O', 'R'] 0x33,
      /- X32 -/ rowR8R8 ['X', 'O', 'R'] 0x32,
      /- X33 -/ rowOne ['J', 'M', 'P'] [0xE9] 3 [.field false .rel16],
      /- X34 -/ rowOne ['J', 'E'] [0x74] 2 [.field false .rel8],
      /- X35 -/ rowOne ['J', 'Z'] [0x74] 2 [.field false .rel8],
      /- X36 -/ rowOne ['J', 'N', 'E'] [0x75] 2 [.field false .rel8],
      /- X37 -/ rowOne ['J', 'N', 'Z'] [0x75] 2 [.field false .rel8],
      /- X38 -/ rowOne ['H', 'L', 'T'] [0xF4] 1 [] ]

/-- The reference `OPTAB51`, rows Y1 to Y34 in declaration order (R107). -/
def optab51 : Table :=
    [ /- Y1 -/ rowOne ['M', 'O', 'V'] [0x74] 2 [.fixed ['A'], .field true .imm8],
      /- Y2 -/ rowOne ['M', 'O', 'V'] [0x75, 0xF0] 3 [.fixed ['B'], .field true .imm8],
      /- Y3 -/ rowRN ['M', 'O', 'V'] (fun r => [0x78 + numRN r]) 2 (fun r => [.fixed (nameRN r), .field true .imm8]),
      /- Y4 -/ [{ mnemonic := ['M', 'O', 'V'], lead := [0x90], len := 3, template := [.fixed nameDptr, .field true .imm16], bigEndian := true }],
      /- Y5 -/ rowRN ['M', 'O', 'V'] (fun r => [0xE8 + numRN r]) 1 (fun r => [.fixed ['A'], .fixed (nameRN r)]),
      /- Y6 -/ rowRN ['M', 'O', 'V'] (fun r => [0xF8 + numRN r]) 1 (fun r => [.fixed (nameRN r), .fixed ['A']]),
      /- Y7 -/ rowOne ['M', 'O', 'V'] [0xE5, 0xF0] 2 [.fixed ['A'], .fixed ['B']],
      /- Y8 -/ rowOne ['M', 'O', 'V'] [0xF5, 0xF0] 2 [.fixed ['B'], .fixed ['A']],
      /- Y9 -/ rowRN ['M', 'O', 'V'] (fun r => [0x88 + numRN r, 0xF0]) 2 (fun r => [.fixed ['B'], .fixed (nameRN r)]),
      /- Y10 -/ rowRN ['M', 'O', 'V'] (fun r => [0xA8 + numRN r, 0xF0]) 2 (fun r => [.fixed (nameRN r), .fixed ['B']]),
      /- Y11 -/ rowOne ['M', 'O', 'V', 'X'] [0xE0] 1 [.fixed ['A'], .fixed nameIndDptr],
      /- Y12 -/ rowOne ['M', 'O', 'V', 'X'] [0xF0] 1 [.fixed nameIndDptr, .fixed ['A']],
      /- Y13 -/ rowRI ['M', 'O', 'V', 'X'] (fun i => [0xE2 + numRI i]) (fun i => [.fixed ['A'], .fixed (nameInd i)]),
      /- Y14 -/ rowRI ['M', 'O', 'V', 'X'] (fun i => [0xF2 + numRI i]) (fun i => [.fixed (nameInd i), .fixed ['A']]),
      /- Y15 -/ rowOne ['I', 'N', 'C'] [0x04] 1 [.fixed ['A']],
      /- Y16 -/ rowOne ['I', 'N', 'C'] [0x05, 0xF0] 2 [.fixed ['B']],
      /- Y17 -/ rowRN ['I', 'N', 'C'] (fun r => [0x08 + numRN r]) 1 (fun r => [.fixed (nameRN r)]),
      /- Y18 -/ rowOne ['I', 'N', 'C'] [0xA3] 1 [.fixed nameDptr],
      /- Y19 -/ rowOne ['D', 'E', 'C'] [0x14] 1 [.fixed ['A']],
      /- Y20 -/ rowOne ['D', 'E', 'C'] [0x15, 0xF0] 2 [.fixed ['B']],
      /- Y21 -/ rowRN ['D', 'E', 'C'] (fun r => [0x18 + numRN r]) 1 (fun r => [.fixed (nameRN r)]),
      /- Y22 -/ rowOne ['D', 'E', 'C'] [0xA5] 1 [.fixed nameDptr],
      /- Y23 -/ rowOne ['M', 'U', 'L'] [0xA4] 1 [.fixed ['A', 'B']],
      /- Y24 -/ rowOne ['D', 'I', 'V'] [0x84] 1 [.fixed ['A', 'B']],
      /- Y25 -/ rowOne ['R', 'L', 'C'] [0x33] 1 [.fixed ['A']],
      /- Y26 -/ rowOne ['R', 'R', 'C'] [0x13] 1 [.fixed ['A']],
      /- Y27 -/ rowOne ['C', 'L', 'R'] [0xC3] 1 [.fixed ['C']],
      /- Y28 -/ rowOne ['S', 'E', 'T', 'B'] [0xD3] 1 [.fixed ['C']],
      /- Y29 -/ rowOne ['C', 'P', 'L'] [0xB3] 1 [.fixed ['C']],
      /- Y30 -/ rowOne ['S', 'J', 'M', 'P'] [0x80] 2 [.field false .rel8],
      /- Y31 -/ rowOne ['J', 'Z'] [0x60] 2 [.field false .rel8],
      /- Y32 -/ rowOne ['J', 'N', 'Z'] [0x70] 2 [.field false .rel8],
      /- Y33 -/ rowOne ['J', 'C'] [0x40] 2 [.field false .rel8],
      /- Y34 -/ rowOne ['J', 'N', 'C'] [0x50] 2 [.field false .rel8] ]

/-- The reference table of an architecture (R7: the defaults of `OPTAB86`, `OPTAB51`). -/
def optab : Arch → Table
  | .core86 => optab86
  | .core51 => optab51

/-! ### The decoder -/

/-- The first entry, in declaration order, whose first lead byte is the given byte (R92). -/
def selectEntry (table : Table) (b : Byte) : Option Entry :=
  table.findSome? fun row => row.find? fun e => e.lead.head? == some b

/-- One decode step at the start of a buffer (R92 to R94): what it decoded to, and how many bytes it took.
`none` only on an empty buffer. An entry that runs past the buffer is no match (R94). -/
def decodeStep (table : Table) (buf : List Byte) : Option (Decoded × Nat) :=
  match buf with
  | [] => none
  | b :: _ =>
    match selectEntry table b with
    | none => some (.unknown b, 1)
    | some e =>
      if e.len ≤ buf.length then
        some (.known e (fieldValues e.bigEndian e.template (buf.drop e.lead.length)), e.len)
      else some (.unknown b, 1)

/-- `decode(T, bytes, off)` (R92). -/
def decodeAt (table : Table) (bytes : List Byte) (off : Nat) : Option (Decoded × Nat) :=
  decodeStep table (bytes.drop off)

/-- The lines from an address on; every step takes at least one byte, so `fuel` bytes are enough. -/
def disassembleFrom (table : Table) : Nat → Nat → List Byte → List Line
  | 0, _, _ => []
  | fuel + 1, address, bytes =>
    match decodeStep table bytes with
    | none => []
    | some (d, n) =>
      { address := address, bytes := bytes.take n, decoded := d } ::
        disassembleFrom table fuel (address + n) (bytes.drop n)

/-- `disassemble(T, bytes)` (R95). -/
def disassemble (table : Table) (bytes : List Byte) : List Line :=
  disassembleFrom table bytes.length 0 bytes

/-- The operands of a template with its placeholders replaced by numerals (R96). -/
def operandTokens : List Pattern → List Nat → List Token
  | [], _ => []
  | .fixed t :: ps, vs => t :: operandTokens ps vs
  | .field m p :: ps, v :: vs =>
    ((if m then ['#'] else []) ++ hexNumeral (2 * placeholderSize p) v) :: operandTokens ps vs
  | .field _ _ :: _, [] => []

/-- Tokens separated by `, ` (R88). -/
def joinOperands : List Token → List Char
  | [] => []
  | [t] => t
  | t :: rest => t ++ ',' :: ' ' :: joinOperands rest

/-- `operandText` (R96); an unknown byte prints nothing. -/
def operandText : Decoded → List Char
  | .known e vs => joinOperands (operandTokens e.template vs)
  | .unknown _ => []

/-- The parsed record that a disassembled instruction's mnemonic and operand text spell. -/
def decodedRecord : Decoded → Option Record
  | .known e vs => some { mnemonic := e.mnemonic, operands := operandTokens e.template vs }
  | .unknown _ => none

/-- The instruction a decoded entry is: its record as the execution engine of the core reads it. -/
def decodedInstr (a : Arch) (d : Decoded) : Option Instr :=
  match decodedRecord d with
  | none => none
  | some r =>
    match resolve a r with
    | .ok i => some i
    | .error _ => none

/-- The instruction at the start of a buffer and its length, by the reference table of a core; `none` at
an unknown byte or an empty buffer. -/
def decode (a : Arch) (bytes : List Byte) : Option (Instr × Nat) :=
  match decodeStep (optab a) bytes with
  | none => none
  | some (d, n) =>
    match decodedInstr a d with
    | none => none
    | some i => some (i, n)

/-! ### A table word -/

/-- The bytes of an instruction whose bits are `w`, the first byte in bits 7..0. -/
def wordBytes (nbits w : Nat) : List Byte := littleBytes (nbits / 8) w

/-- What one core's decoder makes of exactly these bytes: an entry as long as the word, or nothing. -/
def decodeExact (a : Arch) (bytes : List Byte) : Option Decoded :=
  match decodeStep (optab a) bytes with
  | some (.known e vs, n) => if n = bytes.length then some (.known e vs) else none
  | some (.unknown _, _) => none
  | none => none

/-- The core and the decoded entry of a table word. A word does not say which table the host has selected
(R111): core86's is tried first, then core51's (assumption log 6). -/
def decodeWord (nbits w : Nat) : Option (Arch × Decoded) :=
  match decodeExact .core86 (wordBytes nbits w) with
  | some d => some (.core86, d)
  | none =>
    match decodeExact .core51 (wordBytes nbits w) with
    | some d => some (.core51, d)
    | none => none

/-- The instruction the decoder reads from a table word. -/
def decodeTableWord (nbits w : Nat) : Option Instr :=
  match decodeWord nbits w with
  | some (a, d) => decodedInstr a d
  | none => none

/-! ### The encoder -/

/-- An `imm16` or `rel16` of core86: low byte first (R65). -/
def wordLE (n : Word) : List Byte := [n.extractLsb' 0 8, n.extractLsb' 8 8]

/-- The `imm16` of the DPTR load: high byte first (R65). -/
def wordBE (n : Word) : List Byte := [n.extractLsb' 8 8, n.extractLsb' 0 8]

/-- The bytes of an instruction, from the lead bytes and formats of R105 to R107; `none` for an
execute-only form, which has no encoding (R113). -/
def encode : Instr → Option (List Byte)
  | .x86MovR16Imm16 r n => some ((0xB8#8 + numR16 r) :: wordLE n)
  | .x86MovR8Imm8 r n => some [0xB0 + numR8 r, n]
  | .x86MovR16R16 d s => some [0x8B, modrm (numR16 d) (numR16 s)]
  | .x86MovR8R8 d s => some [0x8A, modrm (numR8 d) (numR8 s)]
  | .x86AddR16Imm16 r n => some (0x81#8 :: modrm 0 (numR16 r) :: wordLE n)
  | .x86AddR8Imm8 r n => some [0x80, modrm 0 (numR8 r), n]
  | .x86AddR16R16 d s => some [0x03, modrm (numR16 d) (numR16 s)]
  | .x86AddR8R8 d s => some [0x02, modrm (numR8 d) (numR8 s)]
  | .x86SubR16Imm16 r n => some (0x81#8 :: modrm 5 (numR16 r) :: wordLE n)
  | .x86SubR8Imm8 r n => some [0x80, modrm 5 (numR8 r), n]
  | .x86SubR16R16 d s => some [0x2B, modrm (numR16 d) (numR16 s)]
  | .x86SubR8R8 d s => some [0x2A, modrm (numR8 d) (numR8 s)]
  | .x86CmpR16Imm16 r n => some (0x81#8 :: modrm 7 (numR16 r) :: wordLE n)
  | .x86CmpR8Imm8 r n => some [0x80, modrm 7 (numR8 r), n]
  | .x86CmpR16R16 d s => some [0x3B, modrm (numR16 d) (numR16 s)]
  | .x86CmpR8R8 d s => some [0x3A, modrm (numR8 d) (numR8 s)]
  | .x86IncR16 r => some [0x40 + numR16 r]
  | .x86IncR8 r => some [0xFE, modrm 0 (numR8 r)]
  | .x86DecR16 r => some [0x48 + numR16 r]
  | .x86DecR8 r => some [0xFE, modrm 1 (numR8 r)]
  | .x86AndR16Imm16 r n => some (0x81#8 :: modrm 4 (numR16 r) :: wordLE n)
  | .x86AndR8Imm8 r n => some [0x80, modrm 4 (numR8 r), n]
  | .x86AndR16R16 d s => some [0x23, modrm (numR16 d) (numR16 s)]
  | .x86AndR8R8 d s => some [0x22, modrm (numR8 d) (numR8 s)]
  | .x86OrR16Imm16 r n => some (0x81#8 :: modrm 1 (numR16 r) :: wordLE n)
  | .x86OrR8Imm8 r n => some [0x80, modrm 1 (numR8 r), n]
  | .x86OrR16R16 d s => some [0x0B, modrm (numR16 d) (numR16 s)]
  | .x86OrR8R8 d s => some [0x0A, modrm (numR8 d) (numR8 s)]
  | .x86XorR16Imm16 r n => some (0x81#8 :: modrm 6 (numR16 r) :: wordLE n)
  | .x86XorR8Imm8 r n => some [0x80, modrm 6 (numR8 r), n]
  | .x86XorR16R16 d s => some [0x33, modrm (numR16 d) (numR16 s)]
  | .x86XorR8R8 d s => some [0x32, modrm (numR8 d) (numR8 s)]
  | .x86Jmp t => some (0xE9#8 :: wordLE t)
  | .x86Je t => some [0x74, t]
  | .x86Jz t => some [0x74, t]
  | .x86Jne t => some [0x75, t]
  | .x86Jnz t => some [0x75, t]
  | .x86Hlt => some [0xF4]
  | .i51MovAImm n => some [0x74, n]
  | .i51MovBImm n => some [0x75, 0xF0, n]
  | .i51MovRnImm r n => some [0x78 + numRN r, n]
  | .i51MovDptrImm n => some (0x90#8 :: wordBE n)
  | .i51MovARn r => some [0xE8 + numRN r]
  | .i51MovRnA r => some [0xF8 + numRN r]
  | .i51MovAB => some [0xE5, 0xF0]
  | .i51MovBA => some [0xF5, 0xF0]
  | .i51MovBRn r => some [0x88 + numRN r, 0xF0]
  | .i51MovRnB r => some [0xA8 + numRN r, 0xF0]
  | .i51MovxADptr => some [0xE0]
  | .i51MovxDptrA => some [0xF0]
  | .i51MovxARi i => some [0xE2 + numRI i]
  | .i51MovxRiA i => some [0xF2 + numRI i]
  | .i51IncA => some [0x04]
  | .i51IncB => some [0x05, 0xF0]
  | .i51IncRn r => some [0x08 + numRN r]
  | .i51IncDptr => some [0xA3]
  | .i51DecA => some [0x14]
  | .i51DecB => some [0x15, 0xF0]
  | .i51DecRn r => some [0x18 + numRN r]
  | .i51DecDptr => some [0xA5]
  | .i51MulAB => some [0xA4]
  | .i51DivAB => some [0x84]
  | .i51RlcA => some [0x33]
  | .i51RrcA => some [0x13]
  | .i51ClrC => some [0xC3]
  | .i51SetbC => some [0xD3]
  | .i51CplC => some [0xB3]
  | .i51Sjmp t => some [0x80, t]
  | .i51Jz t => some [0x60, t]
  | .i51Jnz t => some [0x70, t]
  | .i51Jc t => some [0x40, t]
  | .i51Jnc t => some [0x50, t]
  | .x86MovForm .. => none
  | .x86AddForm .. => none
  | .x86SubForm .. => none
  | .x86CmpForm .. => none
  | .x86AndForm .. => none
  | .x86OrForm .. => none
  | .x86XorForm .. => none
  | .x86JmpLit .. => none
  | .x86JeLit .. => none
  | .x86JzLit .. => none
  | .x86JneLit .. => none
  | .x86JnzLit .. => none
  | .x86Div => none
  | .i51MovForm .. => none
  | .i51MovDptrLit .. => none
  | .i51SjmpLit .. => none
  | .i51JzLit .. => none
  | .i51JnzLit .. => none
  | .i51JcLit .. => none
  | .i51JncLit .. => none

end Sys2Proof
end

