-- ==== Sys2Proof/Machine/Assembler.lean ====
section
/-! DEFINITION. The assembler: the forward lookup and the emission of bytes (spec 30_encoding.md R97 to
R104), over any opcode table. -/

set_option autoImplicit false

namespace Sys2Proof.Machine

/-- The errors an assembly records (R100, R101). -/
inductive AsmReason where
  | unknownInstruction
  | immediateOutOfRange
deriving DecidableEq, Repr

/-- `AssembleError` (R101): the line number, the line's text, the reason. -/
structure AsmError where
  line : Nat
  text : List Char
  reason : AsmReason
deriving DecidableEq, Repr

/-- One encoded instruction of the assembler's listing (R97, R102). -/
structure AsmItem where
  address : Nat
  bytes : List Byte
  source : Record
deriving DecidableEq, Repr

/-- What `assemble` answers (R97): the encoded listing and the errors, both in source order. -/
structure Assembly where
  items : List AsmItem
  errors : List AsmError
deriving DecidableEq, Repr

/-- The bytes of an assembly: its instructions' bytes in order (R97). -/
def assemblyBytes (a : Assembly) : List Byte := a.items.flatMap (fun i => i.bytes)

/-- The value of a token for a placeholder: `Value n` only, never the fallback (R98). DESIGN CHOICE, unsafe:
R88 lets any placeholder stand with or without `#`, and R98 says what matches `#imm8`, `#imm16` and the bare
`rel8`, `rel16`, `direct` only; the model goes by the marker alone, so that a bare `imm8` or `imm16` matches
as a bare `rel8` does and `#rel8`, `#rel16`, `#direct` as `#imm8` does (assumption log 30). -/
def placeholderToken (a : Arch) (marker : Bool) (t : Token) : Option Nat :=
  if marker then
    if hasMarker t then
      match lit a t with
      | .ok (.value n) => some n
      | _ => none
    else none
  else if hasMarker t || t.head? == some '@' || isName a t then none
  else
    match lit a t with
    | .ok (.value n) => some n
    | _ => none

/-- Match operand tokens against a template, pattern by pattern (R98): the values of the placeholders, or
`none` for no match. -/
def matchTemplate (a : Arch) : List Pattern → List Token → Option (List Nat)
  | [], [] => some []
  | .fixed p :: ps, t :: ts => if p = t then matchTemplate a ps ts else none
  | .field m _ :: ps, t :: ts =>
    match placeholderToken a m t with
    | none => none
    | some n =>
      match matchTemplate a ps ts with
      | none => none
      | some ns => some (n :: ns)
  | [], _ :: _ => none
  | _ :: _, [] => none

/-- The first entry, in declaration order, that matches an instruction, with the placeholders' values (R98). -/
def forwardLookup (a : Arch) (r : Record) : List Entry → Option (Entry × List Nat)
  | [] => none
  | e :: rest =>
    if e.mnemonic = r.mnemonic then
      match matchTemplate a e.template r.operands with
      | some vs => some (e, vs)
      | none => forwardLookup a r rest
    else forwardLookup a r rest

/-- The bytes of the placeholders' values; `none` when a value does not fit its field (R99, R100). -/
def emitFields (big : Bool) : List Pattern → List Nat → Option (List Byte)
  | .fixed _ :: ps, vs => emitFields big ps vs
  | .field _ p :: ps, v :: vs =>
    if v < 256 ^ placeholderSize p then
      match emitFields big ps vs with
      | some bs => some (fieldBytes big (placeholderSize p) v ++ bs)
      | none => none
    else none
  | [], _ => some []
  | .field _ _ :: _, [] => none

/-- Is a token of a line REFUSED, so that the assembler's answer for the line is not known (R98)? R83's
check holds of every token, names and `@` tokens among them; R85's of those that are no operand name. -/
def refusedToken (a : Arch) (t : Token) : Option Refusal :=
  if hasLowerCase t then some (.lowerCaseToken t)
  else if isName a t then none
  else
    match lit a t with
    | .ok _ => none
    | .error e => some e

/-- The first refused token of a line. -/
def firstRefused (a : Arch) : List Token → Option Refusal
  | [] => none
  | t :: rest =>
    match refusedToken a t with
    | some e => some e
    | none => firstRefused a rest

/-- Assemble one parsed line (R98 to R101): the bytes, an error, or REFUSED. -/
def assembleRecord (a : Arch) (table : Table) (r : Record) : Except Refusal (Except AsmReason (List Byte)) :=
  match firstRefused a r.operands with
  | some e => .error e
  | none =>
    match forwardLookup a r (tableEntries table) with
    | none => .ok (.error .unknownInstruction)
    | some (e, vs) =>
      match emitFields e.bigEndian e.template vs with
      | some bs => .ok (.ok (e.lead ++ bs))
      | none => .ok (.error .immediateOutOfRange)

/-- Assemble numbered lines from an address on; a line in error contributes no bytes and does not advance
the address (R101, R102). -/
def assembleFrom (a : Arch) (table : Table) : Nat → Nat → List (List Char) → Except Refusal Assembly
  | _, _, [] => .ok { items := [], errors := [] }
  | n, address, line :: rest =>
    match parseLine line with
    | none => assembleFrom a table (n + 1) address rest
    | some r =>
      match assembleRecord a table r with
      | .error e => .error e
      | .ok (.error reason) =>
        match assembleFrom a table (n + 1) address rest with
        | .error e => .error e
        | .ok out => .ok { out with errors := { line := n, text := line, reason := reason } :: out.errors }
      | .ok (.ok bytes) =>
        match assembleFrom a table (n + 1) (address + bytes.length) rest with
        | .error e => .error e
        | .ok out =>
          .ok { out with items := { address := address, bytes := bytes, source := { r with sourceLine := some n } } :: out.items }

/-- `assemble_c(text)` (R97); lines are numbered from 1 (assumption log 9). -/
def assemble (a : Arch) (table : Table) (text : List Char) : Except Refusal Assembly :=
  assembleFrom a table 1 0 (sourceLines text)

end Sys2Proof.Machine
end

