-- ==== Sys2Proof/Machine/Flags.lean ====
section
/-! DEFINITION. Widths, parity and every flag computation of the two cores (spec 40_x86_data_alu.md R135
to R137, R139 to R146; 10_state.md R38; 43_i51_alu_flags.md R200 to R203). All values are unsigned
natural numbers (R8). -/

set_option autoImplicit false

namespace Sys2Proof.Machine

/-- The number of bits of an operation width (R135). -/
def widthBits : Width → Nat
  | .w8 => 8
  | .w16 => 16

/-- `2^w`: the number of values of width w. -/
def widthSize (w : Width) : Nat := 2 ^ widthBits w

/-- `mask(w) = 2^w - 1` (R8). -/
def widthMask (w : Width) : Nat := widthSize w - 1

/-- The number of bits set among the low eight bits of `v` (R8's popcount of `v & 0xFF`). -/
def popcount8 (v : Nat) : Nat := ((List.range 8).filter v.testBit).length

/-- `zsp86(r, w)` (R136): ZF, SF, PF of a result already masked to width w; no other flag changes. -/
def zsp86 (r : Nat) (w : Width) (f : Flags86) : Flags86 :=
  { f with
    ZF := decide (r = 0)
    SF := r.testBit (widthBits w - 1)
    PF := decide (popcount8 r % 2 = 0) }

/-- The result of an 8086 operation on operands already masked to width w (R139 to R147). -/
def result86 (m : Arith86) (w : Width) (a b : Nat) : Nat :=
  match m with
  | .add => (a + b) % widthSize w
  | .sub => (a + widthSize w - b) % widthSize w
  | .cmp => (a + widthSize w - b) % widthSize w
  | .inc => (a + 1) % widthSize w
  | .dec => (a + widthSize w - 1) % widthSize w
  | .and => a &&& b
  | .or => a ||| b
  | .xor => a ^^^ b

/-- Flags after ADD (R139): CF when the unmasked sum exceeds the width's maximum. -/
def addFlags86 (w : Width) (a b : Nat) (f : Flags86) : Flags86 :=
  { zsp86 (result86 .add w a b) w f with
    CF := decide (widthMask w < a + b)
    OF := Config.of86 .add w a b f.OF
    AF := Config.af86 .add w a b f.AF }

/-- Flags after SUB (R140): CF when the minuend is less than the subtrahend. -/
def subFlags86 (w : Width) (a b : Nat) (f : Flags86) : Flags86 :=
  { zsp86 (result86 .sub w a b) w f with
    CF := decide (a < b)
    OF := Config.of86 .sub w a b f.OF
    AF := Config.af86 .sub w a b f.AF }

/-- Flags after CMP (R141). -/
def cmpFlags86 (w : Width) (a b : Nat) (f : Flags86) : Flags86 :=
  { zsp86 (result86 .cmp w a b) w f with
    CF := decide (a < b)
    OF := Config.of86 .cmp w a b f.OF
    AF := Config.af86 .cmp w a b f.AF }

/-- Flags after INC (R142): CF, OF, AF are free values (R137). -/
def incFlags86 (w : Width) (a : Nat) (f : Flags86) : Flags86 :=
  { zsp86 (result86 .inc w a 1) w f with
    CF := Config.cfIncDec86 .inc w a f.CF
    OF := Config.of86 .inc w a 1 f.OF
    AF := Config.af86 .inc w a 1 f.AF }

/-- Flags after DEC (R143): CF, OF, AF are free values (R137). -/
def decFlags86 (w : Width) (a : Nat) (f : Flags86) : Flags86 :=
  { zsp86 (result86 .dec w a 1) w f with
    CF := Config.cfIncDec86 .dec w a f.CF
    OF := Config.of86 .dec w a 1 f.OF
    AF := Config.af86 .dec w a 1 f.AF }

/-- Flags after AND, OR, XOR (R144 to R146): CF and OF cleared, AF a free value (R137). -/
def logicFlags86 (m : Arith86) (w : Width) (a b : Nat) (f : Flags86) : Flags86 :=
  { zsp86 (result86 m w a b) w f with
    CF := false
    OF := false
    AF := Config.af86 m w a b f.AF }

/-- The flags after an 8086 operation on operands already masked to width w (R139 to R146). -/
def flags86 (m : Arith86) (w : Width) (a b : Nat) (f : Flags86) : Flags86 :=
  match m with
  | .add => addFlags86 w a b f
  | .sub => subFlags86 w a b f
  | .cmp => cmpFlags86 w a b f
  | .inc => incFlags86 w a f
  | .dec => decFlags86 w a f
  | .and => logicFlags86 .and w a b f
  | .or => logicFlags86 .or w a b f
  | .xor => logicFlags86 .xor w a b f

/-- `par51(v)` under `P51_ODD = odd` (R38). -/
def par51 (odd : Bool) (v : Byte) : Bool :=
  if odd then decide (popcount8 v.toNat % 2 = 1) else decide (popcount8 v.toNat % 2 = 0)

/-- A `DIVNZ51` function from the old flag to the new one (R7, R201). -/
def flagRule : Config.FlagRule → Bool → Bool
  | .keep, old => old
  | .clear, _ => false

/-- A flag as the number 0 or 1 (R202, R203). -/
def flagBit (b : Bool) : Nat := if b then 1 else 0

end Sys2Proof.Machine
end

