-- ==== Sys2Proof/Machine/Ops.lean ====
section
/-! DEFINITION. The named operations over memory, registers and the session: memory primitives (spec
20_memory.md R61, R62), register reads and writes (10_state.md R20 to R23, R30 to R38, R41), reset and
the host's loads (70_reset_and_hazards.md R260 to R264), and the ends a transaction can have (R241,
41_x86_control.md R169, R170; 44_i51_control.md R220, R229). The hardware takes no exception and has no
return from one (60_exceptions.md R240, R247, R248): what stands in their place is the status, appended
to the session's log by `State.report`. -/

set_option autoImplicit false

namespace Sys2Proof.Machine

/-! ### Memory -/

/-- The byte a list of cells holds at an address; an unlisted address reads as 0 (R48, R51). -/
def readCell : Memory → Nat → Byte
  | [], _ => 0
  | (k, v) :: rest, a => if a = k then v else readCell rest a

/-- The cells after the byte at an address becomes `v`, in canonical form: a cell of value 0 is not listed. -/
def writeCell : Memory → Nat → Byte → Memory
  | [], a, v => if v = 0 then [] else [(a, v)]
  | (k, w) :: rest, a, v =>
    if a < k then (if v = 0 then (k, w) :: rest else (a, v) :: (k, w) :: rest)
    else if a = k then (if v = 0 then rest else (a, v) :: rest)
    else (k, w) :: writeCell rest a v

/-- Addresses from `low` up, strictly rising and below `size`, and no cell of value 0. -/
def cellsFrom (low size : Nat) : Memory → Bool
  | [] => true
  | (k, v) :: rest => decide (low ≤ k) && decide (k < size) && decide (v ≠ 0) && cellsFrom (k + 1) size rest

/-- The canonical form of an array of `size` bytes. -/
def Memory.wf (size : Nat) (m : Memory) : Bool := cellsFrom 0 size m

/-- `MEM86_SIZE` (R6). -/
def mem86Size : Nat := 2 ^ 20

/-- `MEM51_SIZE` (R6). -/
def mem51Size : Nat := 2 ^ 16

/-- `MemRead86(a, 1)` (R62): the address wraps (R61). -/
def Core86.memRead (c : Core86) (a : Nat) : Byte := readCell c.mem (a % mem86Size)

/-- `MemWrite86(a, 1, v)` (R62): the address wraps (R61). -/
def Core86.memWrite (c : Core86) (a : Nat) (v : Byte) : Core86 :=
  { c with mem := writeCell c.mem (a % mem86Size) v }

/-- `MemRead51(a, 1)` (R62). -/
def Core51.memRead (c : Core51) (a : Nat) : Byte := readCell c.mem (a % mem51Size)

/-- `MemWrite51(a, 1, v)` (R62). -/
def Core51.memWrite (c : Core51) (a : Nat) (v : Byte) : Core51 :=
  { c with mem := writeCell c.mem (a % mem51Size) v }

/-! ### 8086 registers -/

/-- `xL = xX[7:0]` (R20). -/
def lowHalf (x : Word) : Byte := x.extractLsb' 0 8

/-- `xH = xX[15:8]` (R20). -/
def highHalf (x : Word) : Byte := x.extractLsb' 8 8

/-- Writing the low half (R21): `(xX & 0xFF00) | v`. -/
def withLow (x : Word) (v : Byte) : Word := (x &&& 0xFF00#16) ||| v.setWidth 16

/-- Writing the high half (R21): `(v << 8) | (xX & 0x00FF)`. -/
def withHigh (x : Word) (v : Byte) : Word := (v.setWidth 16 <<< 8) ||| (x &&& 0x00FF#16)

/-- Read a 16-bit register (R20, R22). -/
def Core86.getR16 (c : Core86) : R16 → Word
  | .AX => c.AX
  | .CX => c.CX
  | .DX => c.DX
  | .BX => c.BX
  | .SP => c.SP
  | .BP => c.BP
  | .SI => c.SI
  | .DI => c.DI

/-- Write a whole 16-bit register; both halves are replaced (R21). -/
def Core86.setR16 (c : Core86) (r : R16) (v : Word) : Core86 :=
  match r with
  | .AX => { c with AX := v }
  | .CX => { c with CX := v }
  | .DX => { c with DX := v }
  | .BX => { c with BX := v }
  | .SP => { c with SP := v }
  | .BP => { c with BP := v }
  | .SI => { c with SI := v }
  | .DI => { c with DI := v }

/-- Read a byte half (R20). -/
def Core86.getR8 (c : Core86) : R8 → Byte
  | .AL => lowHalf c.AX
  | .CL => lowHalf c.CX
  | .DL => lowHalf c.DX
  | .BL => lowHalf c.BX
  | .AH => highHalf c.AX
  | .CH => highHalf c.CX
  | .DH => highHalf c.DX
  | .BH => highHalf c.BX

/-- Write a byte half; the sibling half keeps its value (R21). -/
def Core86.setR8 (c : Core86) (r : R8) (v : Byte) : Core86 :=
  match r with
  | .AL => { c with AX := withLow c.AX v }
  | .CL => { c with CX := withLow c.CX v }
  | .DL => { c with DX := withLow c.DX v }
  | .BL => { c with BX := withLow c.BX v }
  | .AH => { c with AX := withHigh c.AX v }
  | .CH => { c with CX := withHigh c.CX v }
  | .DH => { c with DX := withHigh c.DX v }
  | .BH => { c with BX := withHigh c.BX v }

/-- Replace the flags of core86. -/
def Core86.withFlags (c : Core86) (f : Flags86) : Core86 := { c with flags := f }

/-- `ip86 <- v & 0xFFFF` (R23, R170). -/
def Core86.setIP (c : Core86) (v : Nat) : Core86 := { c with IP := BitVec.ofNat 16 v }

/-- IP after an instruction that completes and is not a taken jump: plus `IP_STEP`, modulo 2^16 (R169). -/
def Core86.advanceIP (c : Core86) (k : Fin 2) : Core86 := { c with IP := c.IP + BitVec.ofNat 16 k.val }

/-- Set the halt latch (R165). -/
def Core86.setHalted (c : Core86) : Core86 := { c with halted := true }

/-! ### 8051 registers -/

/-- Read an 8051 general register (R32). -/
def Core51.getR (c : Core51) : RN → Byte
  | .R0 => c.R0
  | .R1 => c.R1
  | .R2 => c.R2
  | .R3 => c.R3
  | .R4 => c.R4
  | .R5 => c.R5
  | .R6 => c.R6
  | .R7 => c.R7

/-- Write an 8051 general register (R32). -/
def Core51.setR (c : Core51) (r : RN) (v : Byte) : Core51 :=
  match r with
  | .R0 => { c with R0 := v }
  | .R1 => { c with R1 := v }
  | .R2 => { c with R2 := v }
  | .R3 => { c with R3 := v }
  | .R4 => { c with R4 := v }
  | .R5 => { c with R5 := v }
  | .R6 => { c with R6 := v }
  | .R7 => { c with R7 := v }

/-- Write the accumulator and recompute P from it (R38, R183). -/
def Core51.setA (c : Core51) (p : Config.Params) (v : Byte) : Core51 :=
  { c with A := v, flags := { c.flags with P := par51 p.parityOdd v } }

/-- Write the B register (R31). -/
def Core51.setB (c : Core51) (v : Byte) : Core51 := { c with B := v }

/-- Write the data pointer (R33). -/
def Core51.setDPTR (c : Core51) (v : Word) : Core51 := { c with DPTR := v }

/-- Write the carry flag. -/
def Core51.setC (c : Core51) (b : Bool) : Core51 := { c with flags := { c.flags with C := b } }

/-- Write the overflow flag. -/
def Core51.setOV (c : Core51) (b : Bool) : Core51 := { c with flags := { c.flags with OV := b } }

/-- The number of bits of the 8051 program counter (R34). -/
def pcBits : Config.PcWidth → Nat
  | .pc8 => 8
  | .pc16 => 16

/-- `pc51 <- v mod 2^PCW51` (R34, R41, R220). -/
def Core51.setPC (c : Core51) (p : Config.Params) (v : Nat) : Core51 :=
  { c with PC := BitVec.ofNat 16 (v % 2 ^ pcBits p.pcWidth) }

/-- PC after an instruction that completes and is not a taken jump (R229). -/
def Core51.advancePC (c : Core51) (p : Config.Params) : Core51 := c.setPC p (c.PC.toNat + p.ipStep.val)

/-! ### The two cores inside the state, and the ends of a transaction -/

/-- Replace core86; core51 and everything else keep their values (R45). -/
def State.withCore86 (s : State) (c : Core86) : State := { s with core86 := c }

/-- Replace core51; core86 and everything else keep their values (R45). -/
def State.withCore51 (s : State) (c : Core51) : State := { s with core51 := c }

/-- Append a status to the session's log: the output of an `execute` transaction (R241, R266). -/
def State.report (s : State) (st : Status) : State :=
  { s with session := { s.session with log := s.session.log ++ [st] } }

/-- A core86 instruction that is not a taken jump completes with status `OK`, leaving core86 at `c` but
for IP (R169). -/
def complete86 (s : State) (c : Core86) : Result :=
  .next ((s.withCore86 (c.advanceIP s.params.ipStep)).report .ok)

/-- A taken core86 jump to listing index `t` (R170). -/
def jump86 (s : State) (t : Nat) : Result :=
  .next ((s.withCore86 (s.core86.setIP t)).report .ok)

/-- A core86 jump that is taken or not (R161, R169). -/
def branch86 (taken : Bool) (t : Nat) (s : State) : Result :=
  if taken then jump86 s t else complete86 s s.core86

/-- A mnemonic core86 does not support: only the status is reported (R166, R167). -/
def unknown86 (s : State) : Result := .next (s.report .unknownInstruction)

/-- A core51 instruction that is not a taken jump completes with status `OK`, leaving core51 at `c` but
for PC (R229). -/
def complete51 (s : State) (c : Core51) : Result :=
  .next ((s.withCore51 (c.advancePC s.params)).report .ok)

/-- A taken core51 jump to listing index `t` (R220). -/
def jump51 (s : State) (t : Nat) : Result :=
  .next ((s.withCore51 (s.core51.setPC s.params t)).report .ok)

/-- A core51 jump that is taken or not (R222, R229). -/
def branch51 (taken : Bool) (t : Nat) (s : State) : Result :=
  if taken then jump51 s t else complete51 s s.core51

/-! ### Reset and the host's memory transactions -/

/-- `reset_86()`: every cell from the reset record, the halt latch clear; nothing else changes (R260, R261). -/
def resetCore86 (s : State) : State := s.withCore86 { s.resetRecord86 with halted := false }

/-- core51 right after reset: every cell from the reset record, but the ports all ones, P the parity of A
and PC held to its width (R34, R48, R260). -/
def resetImage51 (p : Config.Params) (r : Core51) : Core51 :=
  (({ r with P0 := 0xFF, P1 := 0xFF, P2 := 0xFF, P3 := 0xFF } : Core51).setA p r.A).setPC p r.PC.toNat

/-- `reset_51()` (R260, R261). -/
def resetCore51 (s : State) : State := s.withCore51 (resetImage51 s.params s.resetRecord51)

/-- Reset one core (R49, R260). -/
def resetCore (a : Arch) (s : State) : State :=
  match a with
  | .core86 => resetCore86 s
  | .core51 => resetCore51 s

/-- Copy bytes to `base`, `base + 1`, …, ascending (R66). -/
def Core86.loadFrom (c : Core86) (base : Nat) : List Byte → Core86
  | [] => c
  | b :: rest => (c.memWrite base b).loadFrom (base + 1) rest

/-- Copy bytes to `base`, `base + 1`, …, ascending (R66). -/
def Core51.loadFrom (c : Core51) (base : Nat) : List Byte → Core51
  | [] => c
  | b :: rest => (c.memWrite base b).loadFrom (base + 1) rest

/-- `loadProgram_c(bytes)`: the bytes from address 0, then IP or PC becomes 0; nothing else changes (R262). -/
def loadProgram (a : Arch) (bytes : List Byte) (s : State) : State :=
  match a with
  | .core86 => s.withCore86 ((s.core86.loadFrom 0 bytes).setIP 0)
  | .core51 => s.withCore51 ((s.core51.loadFrom 0 bytes).setPC s.params 0)

/-- `loadExternalMemory_51(address, values)`: PC keeps its value (R263). -/
def loadExternalMemory (address : Nat) (values : List Byte) (s : State) : State :=
  s.withCore51 (s.core51.loadFrom address values)

/-- `readMemory_c(address)` (R264). -/
def readMemory (a : Arch) (address : Nat) (s : State) : Byte :=
  match a with
  | .core86 => s.core86.memRead address
  | .core51 => s.core51.memRead address

/-- `writeMemory_c(address, byte)`; the value is masked to 8 bits (R264). -/
def writeMemory (a : Arch) (address : Nat) (value : Nat) (s : State) : State :=
  match a with
  | .core86 => s.withCore86 (s.core86.memWrite address (BitVec.ofNat 8 value))
  | .core51 => s.withCore51 (s.core51.memWrite address (BitVec.ofNat 8 value))

/-- The host selects an architecture; no cell of either core changes (R252, R275). -/
def selectCore (a : Arch) (s : State) : State := { s with session := { s.session with selected := a } }

/-- The host hands over a new listing and puts its cursor at entry 0 (R46, R267). -/
def setListing (l : List Record) (s : State) : State :=
  { s with session := { s.session with listing := l, cursor := 0 } }

/-- The host puts its step cursor to 0 (R267). -/
def rewindCursor (s : State) : State := { s with session := { s.session with cursor := 0 } }

/-- The host resets a core: the block's `reset_c`, which leaves the cursor alone (R260, R261), and the
host's cursor put to 0 (R267). -/
def hostReset (a : Arch) (s : State) : State := rewindCursor (resetCore a s)

/-- The host advances its step cursor by one (R267). -/
def advanceCursor (s : State) : State :=
  { s with session := { s.session with cursor := s.session.cursor + 1 } }

end Sys2Proof.Machine
end

