-- ==== Sys2Proof/Machine/Operands.lean ====
section
/-! DEFINITION. Reading and writing classified operands, in every form the two cores have (spec
40_x86_data_alu.md R132, R133, R135; 42_i51_data.md R182, R183, R188), and the shapes of instruction
shared by several mnemonics. -/

set_option autoImplicit false

namespace Sys2Proof.Machine

/-- A destination read as an operand. -/
def dstOpd86 : Dst86 → Opd86
  | .r8 r => .r8 r
  | .r16 r => .r16 r

/-- `val86(c)` (R132): an unsigned number; an 8-bit register is zero-extended, a literal is unbounded. -/
def Core86.val (c : Core86) : Opd86 → Nat
  | .r8 r => (c.getR8 r).toNat
  | .r16 r => (c.getR16 r).toNat
  | .lit n => n

/-- `write86(c, v)` (R133): the value is masked to the destination's width. -/
def Core86.write (c : Core86) (d : Dst86) (v : Nat) : Core86 :=
  match d with
  | .r8 r => c.setR8 r (BitVec.ofNat 8 v)
  | .r16 r => c.setR16 r (BitVec.ofNat 16 v)

/-- The width of a two-operand operation (R135): 8 only when both operands are 8-bit registers. -/
def width2 : Opd86 → Opd86 → Width
  | .r8 _, .r8 _ => .w8
  | _, _ => .w16

/-- The width of INC and DEC (R135): 8 for an 8-bit register under `W_UNARY8`. -/
def width1 (p : Config.Params) : Dst86 → Width
  | .r8 _ => if p.unary8 then .w8 else .w16
  | .r16 _ => .w16

/-- MOV (R138): the source read whole, the write masks; no flag changes. -/
def move86 (d : Dst86) (src : Opd86) (s : State) : Result :=
  complete86 s (s.core86.write d (s.core86.val src))

/-- ADD, SUB, AND, OR, XOR (R139, R140, R144 to R146): both operands masked to the operation width and
read before anything is written. -/
def binary86 (m : Arith86) (d : Dst86) (src : Opd86) (s : State) : Result :=
  let w := width2 (dstOpd86 d) src
  let a := s.core86.val (dstOpd86 d) % widthSize w
  let b := s.core86.val src % widthSize w
  complete86 s ((s.core86.withFlags (flags86 m w a b s.core86.flags)).write d (result86 m w a b))

/-- CMP (R141): the flags of the subtraction; no register is written. -/
def compare86 (l r : Opd86) (s : State) : Result :=
  let w := width2 l r
  let a := s.core86.val l % widthSize w
  let b := s.core86.val r % widthSize w
  complete86 s (s.core86.withFlags (flags86 .cmp w a b s.core86.flags))

/-- INC, DEC (R142, R143). -/
def unary86 (m : Arith86) (d : Dst86) (s : State) : Result :=
  let w := width1 s.params d
  let a := s.core86.val (dstOpd86 d) % widthSize w
  complete86 s ((s.core86.withFlags (flags86 m w a 1 s.core86.flags)).write d (result86 m w a 1))

/-- Read an 8-bit 8051 register (R182). -/
def Core51.get (c : Core51) : Loc51 → Byte
  | .A => c.A
  | .B => c.B
  | .R r => c.getR r

/-- `write51` of an 8-bit register (R183): the value masked to 8 bits; P follows A. -/
def Core51.write (c : Core51) (p : Config.Params) (l : Loc51) (v : Nat) : Core51 :=
  match l with
  | .A => c.setA p (BitVec.ofNat 8 v)
  | .B => c.setB (BitVec.ofNat 8 v)
  | .R r => c.setR r (BitVec.ofNat 8 v)

/-- `val51` of the source of an 8-bit MOV (R182). -/
def Core51.val (c : Core51) : Src51 → Nat
  | .loc l => (c.get l).toNat
  | .imm n => n

/-- The address `@Ri` names: the register zero-extended (R188). -/
def Core51.indirectAddress (c : Core51) : RI → Nat
  | .R0 => c.R0.toNat
  | .R1 => c.R1.toNat

/-- 8-bit MOV (R184). -/
def move51 (d : Loc51) (src : Src51) (s : State) : Result :=
  complete51 s (s.core51.write s.params d (s.core51.val src))

/-- `MOV DPTR, #n` (R185): masked to 16 bits. -/
def moveDptr51 (n : Nat) (s : State) : Result :=
  complete51 s (s.core51.setDPTR (BitVec.ofNat 16 n))

/-- `MOVX A, @…`: one byte of `Mem51` into A (R186, R188). -/
def loadExternal51 (address : Nat) (s : State) : Result :=
  complete51 s (s.core51.write s.params .A (s.core51.memRead address).toNat)

/-- `MOVX @…, A`: A into one byte of `Mem51` (R187, R189). -/
def storeExternal51 (address : Nat) (s : State) : Result :=
  complete51 s (s.core51.memWrite address s.core51.A)

/-- 8-bit INC (R190): modulo 256; no flag but P. -/
def increment51 (l : Loc51) (s : State) : Result :=
  complete51 s (s.core51.write s.params l ((s.core51.get l).toNat + 1))

/-- 8-bit DEC (R191): modulo 256; no flag but P. -/
def decrement51 (l : Loc51) (s : State) : Result :=
  complete51 s (s.core51.write s.params l ((s.core51.get l).toNat + 255))

end Sys2Proof.Machine
end

