-- ==== Sys2Proof/Machine/I51Alu.lean ====
section
/-! DEFINITION. core51 multiply, divide, rotates and the carry flag (spec 43_i51_alu_flags.md R200 to R207). AC is never
written (R37). -/

set_option autoImplicit false

namespace Sys2Proof.Machine

/-- `MUL AB`, row Y23 (R200): both operands are read before either register is written. -/
def execI51MulAB (s : State) : Result :=
  let p := s.core51.A.toNat * s.core51.B.toNat
  complete51 s
    ((((s.core51.setA s.params (BitVec.ofNat 8 p)).setB (BitVec.ofNat 8 (p >>> 8))).setC false).setOV
      (decide (p >>> 8 ≠ 0)))

/-- `DIV AB` by B = 0 (R201): OV is set, nothing else changes, PC is not advanced. -/
def divideByZero51 (s : State) : Result :=
  .next ((s.withCore51 (s.core51.setOV true)).report .divByZero)

/-- `DIV AB`, row Y24 (R201): C and OV after a division by a nonzero B are `DIVNZ51_C`, `DIVNZ51_OV`. -/
def execI51DivAB (s : State) : Result :=
  if s.core51.B = 0 then divideByZero51 s
  else
    let q := s.core51.A.toNat / s.core51.B.toNat
    let r := s.core51.A.toNat % s.core51.B.toNat
    complete51 s
      ((((s.core51.setA s.params (BitVec.ofNat 8 q)).setB (BitVec.ofNat 8 r)).setC
        (flagRule s.params.divC s.core51.flags.C)).setOV (flagRule s.params.divOV s.core51.flags.OV))

/-- `RLC A`, row Y25 (R202): a 9-bit rotation left through C. -/
def execI51RlcA (s : State) : Result :=
  let a := s.core51.A.toNat
  complete51 s
    ((s.core51.setA s.params (BitVec.ofNat 8 ((a <<< 1) ||| flagBit s.core51.flags.C))).setC (a.testBit 7))

/-- `RRC A`, row Y26 (R203): a 9-bit rotation right through C. -/
def execI51RrcA (s : State) : Result :=
  let a := s.core51.A.toNat
  complete51 s
    ((s.core51.setA s.params (BitVec.ofNat 8 ((a >>> 1) ||| (flagBit s.core51.flags.C <<< 7)))).setC (a.testBit 0))

/-- `CLR C`, row Y27 (R204). -/
def execI51ClrC (s : State) : Result := complete51 s (s.core51.setC false)

/-- `SETB C`, row Y28 (R205). -/
def execI51SetbC (s : State) : Result := complete51 s (s.core51.setC true)

/-- `CPL C`, row Y29 (R206). -/
def execI51CplC (s : State) : Result := complete51 s (s.core51.setC (!s.core51.flags.C))

end Sys2Proof.Machine
end

