-- ==== Sys2Proof/Machine/I51Control.lean ====
section
/-! DEFINITION. core51 control transfer (spec 44_i51_control.md R220 to R229). A jump writes PC and redirects nothing
(R228); JZ and JNZ test the accumulator, JC and JNC the carry flag. -/

set_option autoImplicit false

namespace Sys2Proof.Machine

/-- `SJMP`, row Y30 (R221). -/
def execI51Sjmp (t : Byte) (s : State) : Result := jump51 s t.toNat

/-- `SJMP` to a literal wider than its field (R220, R221). -/
def execI51SjmpLit (n : Nat) (s : State) : Result := jump51 s n

/-- `JZ`, row Y31: taken when A is zero (R222). -/
def execI51Jz (t : Byte) (s : State) : Result := branch51 (decide (s.core51.A = 0)) t.toNat s

/-- `JZ` to a literal wider than its field (R222, R220). -/
def execI51JzLit (n : Nat) (s : State) : Result := branch51 (decide (s.core51.A = 0)) n s

/-- `JNZ`, row Y32: taken when A is not zero (R223). -/
def execI51Jnz (t : Byte) (s : State) : Result := branch51 (decide (s.core51.A ≠ 0)) t.toNat s

/-- `JNZ` to a literal wider than its field (R223, R220). -/
def execI51JnzLit (n : Nat) (s : State) : Result := branch51 (decide (s.core51.A ≠ 0)) n s

/-- `JC`, row Y33: taken when C is true (R224). -/
def execI51Jc (t : Byte) (s : State) : Result := branch51 s.core51.flags.C t.toNat s

/-- `JC` to a literal wider than its field (R224, R220). -/
def execI51JcLit (n : Nat) (s : State) : Result := branch51 s.core51.flags.C n s

/-- `JNC`, row Y34: taken when C is false (R225). -/
def execI51Jnc (t : Byte) (s : State) : Result := branch51 (!s.core51.flags.C) t.toNat s

/-- `JNC` to a literal wider than its field (R225, R220). -/
def execI51JncLit (n : Nat) (s : State) : Result := branch51 (!s.core51.flags.C) n s

end Sys2Proof.Machine
end

