-- ==== Sys2Proof/Machine/I51Data.lean ====
section
/-! DEFINITION. core51 data movement, increment and decrement (spec 42_i51_data.md R184 to R193). C, AC and OV are never
written here; P follows A (R183). -/

set_option autoImplicit false

namespace Sys2Proof.Machine

/-- `MOV A, #imm8`, row Y1 (R184). -/
def execI51MovAImm (n : Byte) (s : State) : Result := move51 .A (.imm n.toNat) s

/-- `MOV B, #imm8`, row Y2 (R184). -/
def execI51MovBImm (n : Byte) (s : State) : Result := move51 .B (.imm n.toNat) s

/-- `MOV Rn, #imm8`, row Y3 (R184). -/
def execI51MovRnImm (r : RN) (n : Byte) (s : State) : Result := move51 (.R r) (.imm n.toNat) s

/-- `MOV DPTR, #imm16`, row Y4 (R185). -/
def execI51MovDptrImm (n : Word) (s : State) : Result := moveDptr51 n.toNat s

/-- `MOV A, Rn`, row Y5 (R184). -/
def execI51MovARn (r : RN) (s : State) : Result := move51 .A (.loc (.R r)) s

/-- `MOV Rn, A`, row Y6 (R184). -/
def execI51MovRnA (r : RN) (s : State) : Result := move51 (.R r) (.loc .A) s

/-- `MOV A, B`, row Y7 (R184). -/
def execI51MovAB (s : State) : Result := move51 .A (.loc .B) s

/-- `MOV B, A`, row Y8 (R184). -/
def execI51MovBA (s : State) : Result := move51 .B (.loc .A) s

/-- `MOV B, Rn`, row Y9 (R184). -/
def execI51MovBRn (r : RN) (s : State) : Result := move51 .B (.loc (.R r)) s

/-- `MOV Rn, B`, row Y10 (R184). -/
def execI51MovRnB (r : RN) (s : State) : Result := move51 (.R r) (.loc .B) s

/-- 8-bit `MOV` in a form no row encodes (R184, R194). -/
def execI51MovForm (l : Loc51) (src : Src51) (s : State) : Result := move51 l src s

/-- `MOV DPTR` with an immediate wider than 16 bits (R185). -/
def execI51MovDptrLit (n : Nat) (s : State) : Result := moveDptr51 n s

/-- `MOVX A, @DPTR`, row Y11 (R186). -/
def execI51MovxADptr (s : State) : Result := loadExternal51 s.core51.DPTR.toNat s

/-- `MOVX @DPTR, A`, row Y12 (R187). -/
def execI51MovxDptrA (s : State) : Result := storeExternal51 s.core51.DPTR.toNat s

/-- `MOVX A, @Ri`, row Y13 (R188). -/
def execI51MovxARi (i : RI) (s : State) : Result := loadExternal51 (s.core51.indirectAddress i) s

/-- `MOVX @Ri, A`, row Y14 (R189). -/
def execI51MovxRiA (i : RI) (s : State) : Result := storeExternal51 (s.core51.indirectAddress i) s

/-- `INC A`, row Y15 (R190). -/
def execI51IncA (s : State) : Result := increment51 .A s

/-- `INC B`, row Y16 (R190). -/
def execI51IncB (s : State) : Result := increment51 .B s

/-- `INC Rn`, row Y17 (R190). -/
def execI51IncRn (r : RN) (s : State) : Result := increment51 (.R r) s

/-- `INC DPTR`, row Y18: modulo 2^16, no flag (R192). -/
def execI51IncDptr (s : State) : Result := complete51 s (s.core51.setDPTR (s.core51.DPTR + 1))

/-- `DEC A`, row Y19 (R191). -/
def execI51DecA (s : State) : Result := decrement51 .A s

/-- `DEC B`, row Y20 (R191). -/
def execI51DecB (s : State) : Result := decrement51 .B s

/-- `DEC Rn`, row Y21 (R191). -/
def execI51DecRn (r : RN) (s : State) : Result := decrement51 (.R r) s

/-- `DEC DPTR`, row Y22: modulo 2^16, no flag (R193). -/
def execI51DecDptr (s : State) : Result := complete51 s (s.core51.setDPTR (s.core51.DPTR - 1))

end Sys2Proof.Machine
end

