-- ==== Sys2Proof/Machine/X86Alu.lean ====
section
/-! DEFINITION. core86 arithmetic and logic (spec 40_x86_data_alu.md R139 to R147). No meaning here reads or writes memory
or the segment registers. -/

set_option autoImplicit false

namespace Sys2Proof.Machine

/-- `ADD R16, #imm16`, row X5 (R139). -/
def execX86AddR16Imm16 (r : R16) (n : Word) (s : State) : Result :=
  binary86 .add (.r16 r) (.lit n.toNat) s

/-- `ADD R8, #imm8`, row X6 (R139): a 16-bit operation, since one operand is a literal (R135). -/
def execX86AddR8Imm8 (r : R8) (n : Byte) (s : State) : Result :=
  binary86 .add (.r8 r) (.lit n.toNat) s

/-- `ADD R16, R16`, row X7 (R139). -/
def execX86AddR16R16 (d s' : R16) (s : State) : Result :=
  binary86 .add (.r16 d) (.r16 s') s

/-- `ADD R8, R8`, row X8 (R139). -/
def execX86AddR8R8 (d s' : R8) (s : State) : Result :=
  binary86 .add (.r8 d) (.r8 s') s

/-- `ADD` in a form no row encodes (R139, R134). -/
def execX86AddForm (d : Dst86) (src : Opd86) (s : State) : Result :=
  binary86 .add d src s

/-- `SUB R16, #imm16`, row X9 (R140). -/
def execX86SubR16Imm16 (r : R16) (n : Word) (s : State) : Result :=
  binary86 .sub (.r16 r) (.lit n.toNat) s

/-- `SUB R8, #imm8`, row X10 (R140): a 16-bit operation, since one operand is a literal (R135). -/
def execX86SubR8Imm8 (r : R8) (n : Byte) (s : State) : Result :=
  binary86 .sub (.r8 r) (.lit n.toNat) s

/-- `SUB R16, R16`, row X11 (R140). -/
def execX86SubR16R16 (d s' : R16) (s : State) : Result :=
  binary86 .sub (.r16 d) (.r16 s') s

/-- `SUB R8, R8`, row X12 (R140). -/
def execX86SubR8R8 (d s' : R8) (s : State) : Result :=
  binary86 .sub (.r8 d) (.r8 s') s

/-- `SUB` in a form no row encodes (R140, R134). -/
def execX86SubForm (d : Dst86) (src : Opd86) (s : State) : Result :=
  binary86 .sub d src s

/-- `CMP R16, #imm16`, row X13 (R141). -/
def execX86CmpR16Imm16 (r : R16) (n : Word) (s : State) : Result :=
  compare86 (.r16 r) (.lit n.toNat) s

/-- `CMP R8, #imm8`, row X14 (R141): a 16-bit operation, since one operand is a literal (R135). -/
def execX86CmpR8Imm8 (r : R8) (n : Byte) (s : State) : Result :=
  compare86 (.r8 r) (.lit n.toNat) s

/-- `CMP R16, R16`, row X15 (R141). -/
def execX86CmpR16R16 (d s' : R16) (s : State) : Result :=
  compare86 (.r16 d) (.r16 s') s

/-- `CMP R8, R8`, row X16 (R141). -/
def execX86CmpR8R8 (d s' : R8) (s : State) : Result :=
  compare86 (.r8 d) (.r8 s') s

/-- `CMP` in a form no row encodes (R141, R134). -/
def execX86CmpForm (l r : Opd86) (s : State) : Result :=
  compare86 l r s

/-- `INC R16`, row X17 (R142). -/
def execX86IncR16 (r : R16) (s : State) : Result := unary86 .inc (.r16 r) s

/-- `INC R8`, row X18 (R142); its width is `W_UNARY8`'s (R135). -/
def execX86IncR8 (r : R8) (s : State) : Result := unary86 .inc (.r8 r) s

/-- `DEC R16`, row X19 (R143). -/
def execX86DecR16 (r : R16) (s : State) : Result := unary86 .dec (.r16 r) s

/-- `DEC R8`, row X20 (R143); its width is `W_UNARY8`'s (R135). -/
def execX86DecR8 (r : R8) (s : State) : Result := unary86 .dec (.r8 r) s

/-- `AND R16, #imm16`, row X21 (R144). -/
def execX86AndR16Imm16 (r : R16) (n : Word) (s : State) : Result :=
  binary86 .and (.r16 r) (.lit n.toNat) s

/-- `AND R8, #imm8`, row X22 (R144): a 16-bit operation, since one operand is a literal (R135). -/
def execX86AndR8Imm8 (r : R8) (n : Byte) (s : State) : Result :=
  binary86 .and (.r8 r) (.lit n.toNat) s

/-- `AND R16, R16`, row X23 (R144). -/
def execX86AndR16R16 (d s' : R16) (s : State) : Result :=
  binary86 .and (.r16 d) (.r16 s') s

/-- `AND R8, R8`, row X24 (R144). -/
def execX86AndR8R8 (d s' : R8) (s : State) : Result :=
  binary86 .and (.r8 d) (.r8 s') s

/-- `AND` in a form no row encodes (R144, R134). -/
def execX86AndForm (d : Dst86) (src : Opd86) (s : State) : Result :=
  binary86 .and d src s

/-- `OR R16, #imm16`, row X25 (R145). -/
def execX86OrR16Imm16 (r : R16) (n : Word) (s : State) : Result :=
  binary86 .or (.r16 r) (.lit n.toNat) s

/-- `OR R8, #imm8`, row X26 (R145): a 16-bit operation, since one operand is a literal (R135). -/
def execX86OrR8Imm8 (r : R8) (n : Byte) (s : State) : Result :=
  binary86 .or (.r8 r) (.lit n.toNat) s

/-- `OR R16, R16`, row X27 (R145). -/
def execX86OrR16R16 (d s' : R16) (s : State) : Result :=
  binary86 .or (.r16 d) (.r16 s') s

/-- `OR R8, R8`, row X28 (R145). -/
def execX86OrR8R8 (d s' : R8) (s : State) : Result :=
  binary86 .or (.r8 d) (.r8 s') s

/-- `OR` in a form no row encodes (R145, R134). -/
def execX86OrForm (d : Dst86) (src : Opd86) (s : State) : Result :=
  binary86 .or d src s

/-- `XOR R16, #imm16`, row X29 (R146). -/
def execX86XorR16Imm16 (r : R16) (n : Word) (s : State) : Result :=
  binary86 .xor (.r16 r) (.lit n.toNat) s

/-- `XOR R8, #imm8`, row X30 (R146): a 16-bit operation, since one operand is a literal (R135). -/
def execX86XorR8Imm8 (r : R8) (n : Byte) (s : State) : Result :=
  binary86 .xor (.r8 r) (.lit n.toNat) s

/-- `XOR R16, R16`, row X31 (R146). -/
def execX86XorR16R16 (d s' : R16) (s : State) : Result :=
  binary86 .xor (.r16 d) (.r16 s') s

/-- `XOR R8, R8`, row X32 (R146). -/
def execX86XorR8R8 (d s' : R8) (s : State) : Result :=
  binary86 .xor (.r8 d) (.r8 s') s

/-- `XOR` in a form no row encodes (R146, R134). -/
def execX86XorForm (d : Dst86) (src : Opd86) (s : State) : Result :=
  binary86 .xor d src s

end Sys2Proof.Machine
end

