-- ==== Sys2Proof/Machine/X86Control.lean ====
section
/-! DEFINITION. core86 control transfer, halt and the unknown instruction (spec 41_x86_control.md R160 to R171). A jump
writes IP and redirects nothing (R171). -/

set_option autoImplicit false

namespace Sys2Proof.Machine

/-- `JMP`, row X33 (R160). -/
def execX86Jmp (t : Word) (s : State) : Result := jump86 s t.toNat

/-- `JMP` to a literal wider than its field (R160, R170). -/
def execX86JmpLit (n : Nat) (s : State) : Result := jump86 s n

/-- `JE`, row X34: taken when ZF is true (R161). -/
def execX86Je (t : Byte) (s : State) : Result := branch86 s.core86.flags.ZF t.toNat s

/-- `JE` to a literal wider than its field: taken when ZF is true (R161, R170). -/
def execX86JeLit (n : Nat) (s : State) : Result := branch86 s.core86.flags.ZF n s

/-- `JZ`, row X35: taken when ZF is true (R162). -/
def execX86Jz (t : Byte) (s : State) : Result := branch86 s.core86.flags.ZF t.toNat s

/-- `JZ` to a literal wider than its field: taken when ZF is true (R162, R170). -/
def execX86JzLit (n : Nat) (s : State) : Result := branch86 s.core86.flags.ZF n s

/-- `JNE`, row X36: taken when ZF is false (R163). -/
def execX86Jne (t : Byte) (s : State) : Result := branch86 (!s.core86.flags.ZF) t.toNat s

/-- `JNE` to a literal wider than its field: taken when ZF is false (R163, R170). -/
def execX86JneLit (n : Nat) (s : State) : Result := branch86 (!s.core86.flags.ZF) n s

/-- `JNZ`, row X37: taken when ZF is false (R164). -/
def execX86Jnz (t : Byte) (s : State) : Result := branch86 (!s.core86.flags.ZF) t.toNat s

/-- `JNZ` to a literal wider than its field: taken when ZF is false (R164, R170). -/
def execX86JnzLit (n : Nat) (s : State) : Result := branch86 (!s.core86.flags.ZF) n s

/-- `HLT`, row X38 (R165). -/
def execX86Hlt (s : State) : Result := complete86 s s.core86.setHalted

/-- `DIV`, any operands (R166): no cell changes, the status is `UNKNOWN_INSTRUCTION`. -/
def execX86Div (s : State) : Result := unknown86 s

end Sys2Proof.Machine
end

