-- ==== Sys2Proof/Machine/X86Data.lean ====
section
/-! DEFINITION. core86 data movement (spec 40_x86_data_alu.md R138). No meaning here writes a flag. -/

set_option autoImplicit false

namespace Sys2Proof.Machine

/-- `MOV R16, #imm16`, row X1 (R138). -/
def execX86MovR16Imm16 (r : R16) (n : Word) (s : State) : Result :=
  move86 (.r16 r) (.lit n.toNat) s

/-- `MOV R8, #imm8`, row X2 (R138). -/
def execX86MovR8Imm8 (r : R8) (n : Byte) (s : State) : Result :=
  move86 (.r8 r) (.lit n.toNat) s

/-- `MOV R16, R16`, row X3 (R138). -/
def execX86MovR16R16 (d s' : R16) (s : State) : Result :=
  move86 (.r16 d) (.r16 s') s

/-- `MOV R8, R8`, row X4 (R138). -/
def execX86MovR8R8 (d s' : R8) (s : State) : Result :=
  move86 (.r8 d) (.r8 s') s

/-- `MOV` in a form no row encodes (R138, R134). -/
def execX86MovForm (d : Dst86) (src : Opd86) (s : State) : Result :=
  move86 d src s

end Sys2Proof.Machine
end

