-- ==== Sys2Proof/Machine/Dispatch.lean ====
section
/-! DEFINITION. `exec`: one arm per constructor of `Instr`, each a direct call of that instruction's meaning. -/

namespace Sys2Proof.Machine

open Sys2Proof

def exec (i : Instr) (s : State) : Host.Outcome State Fault Refusal :=
  match i with
  | .x86MovR16Imm16 r n => Sys2Proof.Machine.execX86MovR16Imm16 r n s
  | .x86MovR8Imm8 r n => Sys2Proof.Machine.execX86MovR8Imm8 r n s
  | .x86MovR16R16 d src => Sys2Proof.Machine.execX86MovR16R16 d src s
  | .x86MovR8R8 d src => Sys2Proof.Machine.execX86MovR8R8 d src s
  | .x86AddR16Imm16 r n => Sys2Proof.Machine.execX86AddR16Imm16 r n s
  | .x86AddR8Imm8 r n => Sys2Proof.Machine.execX86AddR8Imm8 r n s
  | .x86AddR16R16 d src => Sys2Proof.Machine.execX86AddR16R16 d src s
  | .x86AddR8R8 d src => Sys2Proof.Machine.execX86AddR8R8 d src s
  | .x86SubR16Imm16 r n => Sys2Proof.Machine.execX86SubR16Imm16 r n s
  | .x86SubR8Imm8 r n => Sys2Proof.Machine.execX86SubR8Imm8 r n s
  | .x86SubR16R16 d src => Sys2Proof.Machine.execX86SubR16R16 d src s
  | .x86SubR8R8 d src => Sys2Proof.Machine.execX86SubR8R8 d src s
  | .x86CmpR16Imm16 r n => Sys2Proof.Machine.execX86CmpR16Imm16 r n s
  | .x86CmpR8Imm8 r n => Sys2Proof.Machine.execX86CmpR8Imm8 r n s
  | .x86CmpR16R16 d src => Sys2Proof.Machine.execX86CmpR16R16 d src s
  | .x86CmpR8R8 d src => Sys2Proof.Machine.execX86CmpR8R8 d src s
  | .x86IncR16 r => Sys2Proof.Machine.execX86IncR16 r s
  | .x86IncR8 r => Sys2Proof.Machine.execX86IncR8 r s
  | .x86DecR16 r => Sys2Proof.Machine.execX86DecR16 r s
  | .x86DecR8 r => Sys2Proof.Machine.execX86DecR8 r s
  | .x86AndR16Imm16 r n => Sys2Proof.Machine.execX86AndR16Imm16 r n s
  | .x86AndR8Imm8 r n => Sys2Proof.Machine.execX86AndR8Imm8 r n s
  | .x86AndR16R16 d src => Sys2Proof.Machine.execX86AndR16R16 d src s
  | .x86AndR8R8 d src => Sys2Proof.Machine.execX86AndR8R8 d src s
  | .x86OrR16Imm16 r n => Sys2Proof.Machine.execX86OrR16Imm16 r n s
  | .x86OrR8Imm8 r n => Sys2Proof.Machine.execX86OrR8Imm8 r n s
  | .x86OrR16R16 d src => Sys2Proof.Machine.execX86OrR16R16 d src s
  | .x86OrR8R8 d src => Sys2Proof.Machine.execX86OrR8R8 d src s
  | .x86XorR16Imm16 r n => Sys2Proof.Machine.execX86XorR16Imm16 r n s
  | .x86XorR8Imm8 r n => Sys2Proof.Machine.execX86XorR8Imm8 r n s
  | .x86XorR16R16 d src => Sys2Proof.Machine.execX86XorR16R16 d src s
  | .x86XorR8R8 d src => Sys2Proof.Machine.execX86XorR8R8 d src s
  | .x86Jmp t => Sys2Proof.Machine.execX86Jmp t s
  | .x86Je t => Sys2Proof.Machine.execX86Je t s
  | .x86Jz t => Sys2Proof.Machine.execX86Jz t s
  | .x86Jne t => Sys2Proof.Machine.execX86Jne t s
  | .x86Jnz t => Sys2Proof.Machine.execX86Jnz t s
  | .x86Hlt => Sys2Proof.Machine.execX86Hlt s
  | .i51MovAImm n => Sys2Proof.Machine.execI51MovAImm n s
  | .i51MovBImm n => Sys2Proof.Machine.execI51MovBImm n s
  | .i51MovRnImm r n => Sys2Proof.Machine.execI51MovRnImm r n s
  | .i51MovDptrImm n => Sys2Proof.Machine.execI51MovDptrImm n s
  | .i51MovARn r => Sys2Proof.Machine.execI51MovARn r s
  | .i51MovRnA r => Sys2Proof.Machine.execI51MovRnA r s
  | .i51MovAB => Sys2Proof.Machine.execI51MovAB s
  | .i51MovBA => Sys2Proof.Machine.execI51MovBA s
  | .i51MovBRn r => Sys2Proof.Machine.execI51MovBRn r s
  | .i51MovRnB r => Sys2Proof.Machine.execI51MovRnB r s
  | .i51MovxADptr => Sys2Proof.Machine.execI51MovxADptr s
  | .i51MovxDptrA => Sys2Proof.Machine.execI51MovxDptrA s
  | .i51MovxARi r => Sys2Proof.Machine.execI51MovxARi r s
  | .i51MovxRiA r => Sys2Proof.Machine.execI51MovxRiA r s
  | .i51IncA => Sys2Proof.Machine.execI51IncA s
  | .i51IncB => Sys2Proof.Machine.execI51IncB s
  | .i51IncRn r => Sys2Proof.Machine.execI51IncRn r s
  | .i51IncDptr => Sys2Proof.Machine.execI51IncDptr s
  | .i51DecA => Sys2Proof.Machine.execI51DecA s
  | .i51DecB => Sys2Proof.Machine.execI51DecB s
  | .i51DecRn r => Sys2Proof.Machine.execI51DecRn r s
  | .i51DecDptr => Sys2Proof.Machine.execI51DecDptr s
  | .i51MulAB => Sys2Proof.Machine.execI51MulAB s
  | .i51DivAB => Sys2Proof.Machine.execI51DivAB s
  | .i51RlcA => Sys2Proof.Machine.execI51RlcA s
  | .i51RrcA => Sys2Proof.Machine.execI51RrcA s
  | .i51ClrC => Sys2Proof.Machine.execI51ClrC s
  | .i51SetbC => Sys2Proof.Machine.execI51SetbC s
  | .i51CplC => Sys2Proof.Machine.execI51CplC s
  | .i51Sjmp t => Sys2Proof.Machine.execI51Sjmp t s
  | .i51Jz t => Sys2Proof.Machine.execI51Jz t s
  | .i51Jnz t => Sys2Proof.Machine.execI51Jnz t s
  | .i51Jc t => Sys2Proof.Machine.execI51Jc t s
  | .i51Jnc t => Sys2Proof.Machine.execI51Jnc t s
  | .x86MovForm d src => Sys2Proof.Machine.execX86MovForm d src s
  | .x86AddForm d src => Sys2Proof.Machine.execX86AddForm d src s
  | .x86SubForm d src => Sys2Proof.Machine.execX86SubForm d src s
  | .x86CmpForm l r => Sys2Proof.Machine.execX86CmpForm l r s
  | .x86AndForm d src => Sys2Proof.Machine.execX86AndForm d src s
  | .x86OrForm d src => Sys2Proof.Machine.execX86OrForm d src s
  | .x86XorForm d src => Sys2Proof.Machine.execX86XorForm d src s
  | .x86JmpLit n => Sys2Proof.Machine.execX86JmpLit n s
  | .x86JeLit n => Sys2Proof.Machine.execX86JeLit n s
  | .x86JzLit n => Sys2Proof.Machine.execX86JzLit n s
  | .x86JneLit n => Sys2Proof.Machine.execX86JneLit n s
  | .x86JnzLit n => Sys2Proof.Machine.execX86JnzLit n s
  | .x86Div => Sys2Proof.Machine.execX86Div s
  | .i51MovForm d src => Sys2Proof.Machine.execI51MovForm d src s
  | .i51MovDptrLit n => Sys2Proof.Machine.execI51MovDptrLit n s
  | .i51SjmpLit n => Sys2Proof.Machine.execI51SjmpLit n s
  | .i51JzLit n => Sys2Proof.Machine.execI51JzLit n s
  | .i51JnzLit n => Sys2Proof.Machine.execI51JnzLit n s
  | .i51JcLit n => Sys2Proof.Machine.execI51JcLit n s
  | .i51JncLit n => Sys2Proof.Machine.execI51JncLit n s

end Sys2Proof.Machine
end

