-- ==== Sys2Proof/Machine/Sequencer.lean ====
section
/-! DEFINITION. The transactions that execute instructions (spec 70_reset_and_hazards.md R265 to R268,
R274 to R276): `execute_c`, the sequencer's `run_c` and `step_c`, MPMC's `runProgram`, and the table of
the block's state-changing transactions. -/

set_option autoImplicit false

namespace Sys2Proof.Machine

/-- `execute_c(record)` (R265): the instruction is the argument; the halt latch, IP, PC and memory are not
consulted. -/
def executeRecord (a : Arch) (r : Record) (s : State) : Result :=
  match resolve a r with
  | .ok i => exec i s
  | .error e => .refused e

/-- The sequencer's halt check: always false on core51 (R42, R266). -/
def haltCheck (a : Arch) (s : State) : Bool :=
  match a with
  | .core86 => s.core86.halted
  | .core51 => false

/-- `run_c(L)` (R266): each entry at most once, in listing order, the halt check before each. DESIGN CHOICE,
unsafe: a run neither reads nor moves the host's step cursor, which the spec gives no value after a run;
it stands where it stood before (assumption log 29). -/
def runListing (a : Arch) : List Record → State → Result
  | [], s => .next s
  | r :: rest, s =>
    if haltCheck a s then .next s
    else
      match executeRecord a r s with
      | .next t => runListing a rest t
      | .fault f => .fault f
      | .refused e => .refused e

/-- `step_c(L, k)` (R267) on the selected core with the session's listing and cursor: nothing happens when
the listing is exhausted or core86 has halted; otherwise one `execute`, and the cursor advances. -/
def stepSession (s : State) : Result :=
  match s.session.listing[s.session.cursor]? with
  | none => .next s
  | some r =>
    if haltCheck s.session.selected s then .next s
    else
      match executeRecord s.session.selected r s with
      | .next t => .next (advanceCursor t)
      | .fault f => .fault f
      | .refused e => .refused e

/-- The state a program's run starts from: the core reset by the host and selected (assumption log 28), the
bytes loaded, the parsed listing handed over (R266, R267). -/
def readyToRun (a : Arch) (bytes : List Byte) (text : List Char) (s : State) : State :=
  setListing (listingOf text) (loadProgram a bytes (selectCore a (hostReset a s)))

/-- `runProgram` with an opcode table (R7, R266): reset, assemble, load the bytes, run the listing of parsed
records. DESIGN CHOICE, unsafe: the core becomes the selected one (R252), which R266's four steps do not
say (assumption log 28). The cursor, put to 0 by the reset and by the assembly (R267), is still 0 after the
run (assumption log 29). -/
def runProgram (a : Arch) (table : Table) (text : List Char) (s : State) : Result :=
  match assemble a table text with
  | .error e => .refused e
  | .ok out => runListing a (listingOf text) (readyToRun a (assemblyBytes out) text s)

/-- The transactions of the block that can change its state (R276). -/
inductive Transaction where
  | reset (a : Arch)
  | loadProgram (a : Arch) (bytes : List Byte)
  | loadExternalMemory (address : Nat) (values : List Byte)
  | writeMemory (a : Arch) (address value : Nat)
  | execute (a : Arch) (r : Record)
deriving DecidableEq, Repr

/-- The core a transaction is applied to (R276). -/
def transactionCore : Transaction → Arch
  | .reset a => a
  | .loadProgram a _ => a
  | .loadExternalMemory _ _ => .core51
  | .writeMemory a _ _ => a
  | .execute a _ => a

/-- Perform one transaction of the block (R276); each is atomic (R69). -/
def perform (t : Transaction) (s : State) : Result :=
  match t with
  | .reset a => .next (resetCore a s)
  | .loadProgram a bytes => .next (loadProgram a bytes s)
  | .loadExternalMemory address values => .next (loadExternalMemory address values s)
  | .writeMemory a address value => .next (writeMemory a address value s)
  | .execute a r => executeRecord a r s

/-- Put a decoded instruction where the sequencer takes its next record: the listing is that one record,
the cursor at 0, its core selected and, on core86, the halt latch clear, since a halted core86 is issued
nothing (R266). -/
def placeDecoded (a : Arch) (d : Decoded) (s : State) : State :=
  match decodedRecord d with
  | none => setListing [] s
  | some r =>
    match a with
    | .core86 => setListing [r] (selectCore .core86 (s.withCore86 { s.core86 with halted := false }))
    | .core51 => setListing [r] (selectCore .core51 s)

/-- Place the instruction of a table word; a word the decoder refuses leaves the listing empty. -/
def placeWord (nbits w : Nat) (s : State) : State :=
  match decodeWord nbits w with
  | some (a, d) => placeDecoded a d s
  | none => setListing [] s

end Sys2Proof.Machine
end

