-- ==== Sys2Proof/Machine/Step.lean ====
section
/-! DEFINITION. One step of the machine: the sequencer's `step_c` on the selected core (spec
70_reset_and_hazards.md R267). The machine fetches no instruction from memory (R75, R265): its next
instruction is the session's listing entry at the cursor (assumption log 4). -/

set_option autoImplicit false

namespace Sys2Proof.Machine

/-- One step (R267). -/
def step (s : State) : Host.Outcome State Fault Refusal := stepSession s

/-- The state with the instruction of a table word stored where `step` takes its next instruction. -/
def State.withFetchWord (s : State) (nbits w : Nat) : State := placeWord nbits w s

end Sys2Proof.Machine
end

