-- ==== Sys2Proof/Safety.lean ====
section
/-! DEFINITION. The terms the claims use: the invariant every step keeps, what counts as a safe run, the
frames (what an instruction leaves alone) and, for each group of instructions, the effect the spec gives
it, written over the cells before and after. -/

set_option autoImplicit false

namespace Sys2Proof.Safety

open Sys2Proof Sys2Proof.Machine

/-! ### The invariant and safe runs -/

/-- What every transaction keeps: both memories and both reset images in canonical form inside their
arrays (R61), P the parity of A (R38), PC within its width (R34, R41). -/
structure Invariant (s : State) : Prop where
  mem86 : Memory.wf mem86Size s.core86.mem = true
  mem51 : Memory.wf mem51Size s.core51.mem = true
  resetMem86 : Memory.wf mem86Size s.resetRecord86.mem = true
  resetMem51 : Memory.wf mem51Size s.resetRecord51.mem = true
  parity : s.core51.flags.P = par51 s.params.parityOdd s.core51.A
  pcWidth : s.core51.PC.toNat < 2 ^ pcBits s.params.pcWidth

/-- Every record of the session's listing has a meaning on the selected core. -/
def ListingAdmitted (s : State) : Prop :=
  ∀ r ∈ s.session.listing, ∃ i, resolve s.session.selected r = .ok i

/-- A safe run: after `k` steps the machine has not stopped. -/
def RunsFor (k : Nat) (s : State) : Prop := ∃ t, Host.Core.run Sys2Proof.core k s = .next t

/-! ### Frames -/

/-- Nothing outside core86 changes but the log, which gains one status. -/
def OnlyCore86 (s t : State) (st : Status) : Prop :=
  t.core51 = s.core51 ∧ t.params = s.params ∧ t.resetRecord86 = s.resetRecord86 ∧
    t.resetRecord51 = s.resetRecord51 ∧ t.session = { s.session with log := s.session.log ++ [st] }

/-- Nothing outside core51 changes but the log, which gains one status. -/
def OnlyCore51 (s t : State) (st : Status) : Prop :=
  t.core86 = s.core86 ∧ t.params = s.params ∧ t.resetRecord86 = s.resetRecord86 ∧
    t.resetRecord51 = s.resetRecord51 ∧ t.session = { s.session with log := s.session.log ++ [st] }

/-- Segment registers, IF, DF, TF and every byte of memory keep their values (R24, R25, R63). -/
def Inert86 (c d : Core86) : Prop :=
  d.CS = c.CS ∧ d.DS = c.DS ∧ d.ES = c.ES ∧ d.SS = c.SS ∧ d.flags.IF = c.flags.IF ∧
    d.flags.DF = c.flags.DF ∧ d.flags.TF = c.flags.TF ∧ ∀ a, d.memRead a = c.memRead a

/-- SP, PSW, the ports and AC keep their values (R35 to R37, R39). -/
def Inert51 (c d : Core51) : Prop :=
  d.SP = c.SP ∧ d.PSW = c.PSW ∧ d.P0 = c.P0 ∧ d.P1 = c.P1 ∧ d.P2 = c.P2 ∧ d.P3 = c.P3 ∧
    d.flags.AC = c.flags.AC

/-- All eight 16-bit registers, and so all eight halves, keep their values. -/
def Registers86Kept (c d : Core86) : Prop := ∀ r : R16, d.getR16 r = c.getR16 r

/-- The destination holds the value masked to its width and every other register keeps its value; a half
leaves its sibling alone (R21, R133). -/
def Wrote86 (dst : Dst86) (v : Nat) (c d : Core86) : Prop :=
  match dst with
  | .r16 r => (d.getR16 r).toNat = v % 2 ^ 16 ∧ ∀ r', r' ≠ r → d.getR16 r' = c.getR16 r'
  | .r8 r =>
    (d.getR8 r).toNat = v % 2 ^ 8 ∧ (∀ r', r' ≠ r → d.getR8 r' = c.getR8 r') ∧
      d.SP = c.SP ∧ d.BP = c.BP ∧ d.SI = c.SI ∧ d.DI = c.DI

/-- Every byte of `Mem51` keeps its value. -/
def Memory51Kept (c d : Core51) : Prop := ∀ a, d.memRead a = c.memRead a

/-- A, B and R0 to R7 but one keep their values. -/
def Registers51KeptBut (l : Loc51) (c d : Core51) : Prop := ∀ l', l' ≠ l → d.get l' = c.get l'

/-- A, B and R0 to R7 keep their values. -/
def Registers51Kept (c d : Core51) : Prop := ∀ l, d.get l = c.get l

/-! ### Effects of the core86 instructions -/

/-- The value of an operand (R132): a half from the low or high byte of its register. -/
def operandValue86 (c : Core86) : Opd86 → Nat
  | .r16 r => (c.getR16 r).toNat
  | .r8 .AL => c.AX.toNat % 256
  | .r8 .BL => c.BX.toNat % 256
  | .r8 .CL => c.CX.toNat % 256
  | .r8 .DL => c.DX.toNat % 256
  | .r8 .AH => c.AX.toNat / 256
  | .r8 .BH => c.BX.toNat / 256
  | .r8 .CH => c.CX.toNat / 256
  | .r8 .DH => c.DX.toNat / 256
  | .lit n => n

/-- The width of a two-operand operation (R135): 8 bits only when both operands are 8-bit registers. -/
def operationWidth : Opd86 → Opd86 → Width
  | .r8 _, .r8 _ => .w8
  | .r8 _, .r16 _ => .w16
  | .r8 _, .lit _ => .w16
  | .r16 _, _ => .w16
  | .lit _, _ => .w16

/-- How many of the low eight bits of a number are set. -/
def setBits (n : Nat) : Nat :=
  n % 2 + n / 2 % 2 + n / 4 % 2 + n / 8 % 2 + n / 16 % 2 + n / 32 % 2 + n / 64 % 2 + n / 128 % 2

/-- ZF, SF and PF of a result `r` of `bits` bits (R136). -/
def ResultFlags (bits r : Nat) (f : Flags86) : Prop :=
  (f.ZF = true ↔ r = 0) ∧ (f.SF = true ↔ 2 ^ (bits - 1) ≤ r) ∧ (f.PF = true ↔ setBits r % 2 = 0)

/-- Something holds of the operation's width and its two operands masked to that width (R135). -/
def WithOperands (c : Core86) (l r : Opd86) (p : Width → Nat → Nat → Prop) : Prop :=
  p (operationWidth l r) (operandValue86 c l % 2 ^ widthBits (operationWidth l r))
    (operandValue86 c r % 2 ^ widthBits (operationWidth l r))

/-- MOV completes: the destination receives the source, no flag changes (R138). -/
def MovEffect86 (out : Result) (s : State) (dst : Dst86) (src : Opd86) : Prop :=
  ∃ t, out = .next t ∧ OnlyCore86 s t .ok ∧ Inert86 s.core86 t.core86 ∧
    t.core86.halted = s.core86.halted ∧ t.core86.flags = s.core86.flags ∧
    Wrote86 dst (operandValue86 s.core86 src) s.core86 t.core86

/-- ADD completes with the sum modulo 2^w and its flags (R139). -/
def AddEffect86 (out : Result) (s : State) (dst : Dst86) (src : Opd86) : Prop :=
  ∃ t, out = .next t ∧ OnlyCore86 s t .ok ∧ Inert86 s.core86 t.core86 ∧
    t.core86.halted = s.core86.halted ∧
    WithOperands s.core86 (dstOpd86 dst) src fun w a b =>
      Wrote86 dst ((a + b) % 2 ^ widthBits w) s.core86 t.core86 ∧
        (t.core86.flags.CF = true ↔ 2 ^ widthBits w ≤ a + b) ∧
        ResultFlags (widthBits w) ((a + b) % 2 ^ widthBits w) t.core86.flags ∧
        t.core86.flags.OF = Config.of86 .add w a b s.core86.flags.OF ∧
        t.core86.flags.AF = Config.af86 .add w a b s.core86.flags.AF

/-- The flags of a subtraction (R140, R141); OF and AF by the given mnemonic's functions. -/
def BorrowFlags (m : Arith86) (w : Width) (a b : Nat) (f g : Flags86) : Prop :=
  (g.CF = true ↔ a < b) ∧ ResultFlags (widthBits w) ((2 ^ widthBits w + a - b) % 2 ^ widthBits w) g ∧
    g.OF = Config.of86 m w a b f.OF ∧ g.AF = Config.af86 m w a b f.AF

/-- SUB completes with the difference modulo 2^w and its flags (R140). -/
def SubEffect86 (out : Result) (s : State) (dst : Dst86) (src : Opd86) : Prop :=
  ∃ t, out = .next t ∧ OnlyCore86 s t .ok ∧ Inert86 s.core86 t.core86 ∧
    t.core86.halted = s.core86.halted ∧
    WithOperands s.core86 (dstOpd86 dst) src fun w a b =>
      Wrote86 dst ((2 ^ widthBits w + a - b) % 2 ^ widthBits w) s.core86 t.core86 ∧
        BorrowFlags .sub w a b s.core86.flags t.core86.flags

/-- CMP completes: the flags of the subtraction, no register written (R141). -/
def CmpEffect86 (out : Result) (s : State) (l r : Opd86) : Prop :=
  ∃ t, out = .next t ∧ OnlyCore86 s t .ok ∧ Inert86 s.core86 t.core86 ∧
    t.core86.halted = s.core86.halted ∧ Registers86Kept s.core86 t.core86 ∧
    WithOperands s.core86 l r fun w a b => BorrowFlags .cmp w a b s.core86.flags t.core86.flags

/-- AND, OR, XOR complete: bit k of the result is `bit` of the operands' bits k, CF and OF are cleared
(R144 to R146). -/
def LogicEffect86 (m : Arith86) (bit : Bool → Bool → Bool) (out : Result) (s : State) (dst : Dst86)
    (src : Opd86) : Prop :=
  ∃ t, out = .next t ∧ OnlyCore86 s t .ok ∧ Inert86 s.core86 t.core86 ∧
    t.core86.halted = s.core86.halted ∧
    WithOperands s.core86 (dstOpd86 dst) src fun w a b =>
      ∃ r, r < 2 ^ widthBits w ∧ (∀ k, r.testBit k = bit (a.testBit k) (b.testBit k)) ∧
        Wrote86 dst r s.core86 t.core86 ∧ ResultFlags (widthBits w) r t.core86.flags ∧
        t.core86.flags.CF = false ∧ t.core86.flags.OF = false ∧
        t.core86.flags.AF = Config.af86 m w a b s.core86.flags.AF

/-- The width of INC and DEC (R135): `W_UNARY8` decides for an 8-bit register. -/
def unaryWidth (p : Config.Params) : Dst86 → Width
  | .r16 _ => .w16
  | .r8 _ => if p.unary8 = true then .w8 else .w16

/-- INC and DEC complete with the operand moved by one modulo 2^w; CF, OF, AF are the free functions (R142,
R143). -/
def UnaryEffect86 (m : Arith86) (move : Nat → Nat → Nat) (out : Result) (s : State) (dst : Dst86) : Prop :=
  ∃ t, out = .next t ∧ OnlyCore86 s t .ok ∧ Inert86 s.core86 t.core86 ∧
    t.core86.halted = s.core86.halted ∧
    ∃ w a, w = unaryWidth s.params dst ∧ a = operandValue86 s.core86 (dstOpd86 dst) ∧
      Wrote86 dst (move (2 ^ widthBits w) a % 2 ^ widthBits w) s.core86 t.core86 ∧
      ResultFlags (widthBits w) (move (2 ^ widthBits w) a % 2 ^ widthBits w) t.core86.flags ∧
      t.core86.flags.CF = Config.cfIncDec86 m w a s.core86.flags.CF ∧
      t.core86.flags.OF = Config.of86 m w a 1 s.core86.flags.OF ∧
      t.core86.flags.AF = Config.af86 m w a 1 s.core86.flags.AF

/-- A jump completes: taken, IP is the target modulo 2^16; not taken, IP moves by `IP_STEP`; nothing else
changes (R160 to R164, R169, R171). -/
def JumpEffect86 (out : Result) (s : State) (taken : Prop) (target : Nat) : Prop :=
  ∃ t, out = .next t ∧ OnlyCore86 s t .ok ∧ t.core86 = { s.core86 with IP := t.core86.IP } ∧
    (taken → t.core86.IP.toNat = target % 2 ^ 16) ∧
    (¬taken → t.core86.IP.toNat = (s.core86.IP.toNat + s.params.ipStep.val) % 2 ^ 16)

/-! ### Effects of the core51 instructions -/

/-- The parity of A after an instruction that writes it (R38). -/
def ParityOfA (s t : State) : Prop := t.core51.flags.P = par51 s.params.parityOdd t.core51.A

/-- P keeps its value. -/
def ParityKept (s t : State) : Prop := t.core51.flags.P = s.core51.flags.P

/-- C and OV keep their values. -/
def CarryOverflowKept (c d : Core51) : Prop := d.flags.C = c.flags.C ∧ d.flags.OV = c.flags.OV

/-- An 8-bit register of core51 receives a value modulo 256 and nothing else changes but P, which follows A,
and PC (R183, R184, R190, R191). -/
def ByteEffect51 (out : Result) (s : State) (l : Loc51) (v : Nat) : Prop :=
  ∃ t, out = .next t ∧ OnlyCore51 s t .ok ∧ Inert51 s.core51 t.core51 ∧
    CarryOverflowKept s.core51 t.core51 ∧ Memory51Kept s.core51 t.core51 ∧
    t.core51.DPTR = s.core51.DPTR ∧ (t.core51.get l).toNat = v % 256 ∧
    Registers51KeptBut l s.core51 t.core51 ∧ (l = .A → ParityOfA s t) ∧ (l ≠ .A → ParityKept s t)

/-- The value of the source of an 8-bit MOV (R182). -/
def sourceValue51 (c : Core51) : Src51 → Nat
  | .loc .A => c.A.toNat
  | .loc .B => c.B.toNat
  | .loc (.R r) => (c.getR r).toNat
  | .imm n => n

/-- DPTR receives a value modulo 2^16 and nothing else changes but PC (R185, R192, R193). -/
def DptrEffect51 (out : Result) (s : State) (v : Nat) : Prop :=
  ∃ t, out = .next t ∧ OnlyCore51 s t .ok ∧ Inert51 s.core51 t.core51 ∧
    t.core51.flags = s.core51.flags ∧ Memory51Kept s.core51 t.core51 ∧
    Registers51Kept s.core51 t.core51 ∧ t.core51.DPTR.toNat = v % 2 ^ 16

/-- MOVX to memory completes: the byte at the address is A, every other byte keeps its value, and nothing
else changes but PC (R187, R189). -/
def StoreEffect51 (out : Result) (s : State) (address : Nat) : Prop :=
  ∃ t, out = .next t ∧ OnlyCore51 s t .ok ∧ Inert51 s.core51 t.core51 ∧
    t.core51.flags = s.core51.flags ∧ Registers51Kept s.core51 t.core51 ∧
    t.core51.DPTR = s.core51.DPTR ∧ t.core51.memRead address = s.core51.A ∧
    ∀ a, a % 2 ^ 16 ≠ address % 2 ^ 16 → t.core51.memRead a = s.core51.memRead a

/-- Only A, B, C, OV and P, and PC, may change (R200 to R203). -/
def OnlyAccumulators51 (s t : State) : Prop :=
  OnlyCore51 s t .ok ∧ Inert51 s.core51 t.core51 ∧ Memory51Kept s.core51 t.core51 ∧
    t.core51.DPTR = s.core51.DPTR ∧ ∀ r, t.core51.getR r = s.core51.getR r

/-- The carry flag receives a value and nothing else changes but PC (R204 to R206). -/
def CarryEffect51 (out : Result) (s : State) (c : Bool) : Prop :=
  ∃ t, out = .next t ∧ OnlyCore51 s t .ok ∧ t.core51.flags.C = c ∧
    t.core51 = { s.core51 with
      PC := t.core51.PC
      flags := { s.core51.flags with C := t.core51.flags.C } }

/-- A core51 jump completes: taken, PC is the target modulo 2^PCW51; not taken, PC moves by `IP_STEP`;
nothing else changes (R220 to R225, R228, R229). -/
def JumpEffect51 (out : Result) (s : State) (taken : Prop) (target : Nat) : Prop :=
  ∃ t, out = .next t ∧ OnlyCore51 s t .ok ∧ t.core51 = { s.core51 with PC := t.core51.PC } ∧
    (taken → t.core51.PC.toNat = target % 2 ^ pcBits s.params.pcWidth) ∧
    (¬taken → t.core51.PC.toNat = (s.core51.PC.toNat + s.params.ipStep.val) % 2 ^ pcBits s.params.pcWidth)

/-! ### Classes of instructions -/

/-- The instruction is a taken jump in this state (R160 to R164, R221 to R225). -/
def takenJump : Instr → State → Bool
  | .x86Jmp _, _ => true
  | .x86JmpLit _, _ => true
  | .x86Je _, s => s.core86.flags.ZF
  | .x86JeLit _, s => s.core86.flags.ZF
  | .x86Jz _, s => s.core86.flags.ZF
  | .x86JzLit _, s => s.core86.flags.ZF
  | .x86Jne _, s => !s.core86.flags.ZF
  | .x86JneLit _, s => !s.core86.flags.ZF
  | .x86Jnz _, s => !s.core86.flags.ZF
  | .x86JnzLit _, s => !s.core86.flags.ZF
  | .i51Sjmp _, _ => true
  | .i51SjmpLit _, _ => true
  | .i51Jz _, s => decide (s.core51.A = 0)
  | .i51JzLit _, s => decide (s.core51.A = 0)
  | .i51Jnz _, s => decide (s.core51.A ≠ 0)
  | .i51JnzLit _, s => decide (s.core51.A ≠ 0)
  | .i51Jc _, s => s.core51.flags.C
  | .i51JcLit _, s => s.core51.flags.C
  | .i51Jnc _, s => !s.core51.flags.C
  | .i51JncLit _, s => !s.core51.flags.C
  | _, _ => false

/-- The core86 instructions the reverse lookup can return (R108): the reachable entries of the reference
`OPTAB86`. -/
def reachable86 : Instr → Bool
  | .x86MovR16Imm16 _ _ => true
  | .x86MovR8Imm8 _ _ => true
  | .x86IncR16 _ => true
  | .x86DecR16 _ => true
  | .x86Jmp _ => true
  | .x86Je _ => true
  | .x86Jne _ => true
  | .x86Hlt => true
  | .x86IncR8 r => decide (r = .AL)
  | .x86AddR16Imm16 r _ => decide (r = .AX)
  | .x86AddR8Imm8 r _ => decide (r = .AL)
  | .x86MovR16R16 d r => decide (d = .AX ∧ r = .AX)
  | .x86MovR8R8 d r => decide (d = .AL ∧ r = .AL)
  | .x86AddR16R16 d r => decide (d = .AX ∧ r = .AX)
  | .x86AddR8R8 d r => decide (d = .AL ∧ r = .AL)
  | .x86SubR16R16 d r => decide (d = .AX ∧ r = .AX)
  | .x86SubR8R8 d r => decide (d = .AL ∧ r = .AL)
  | .x86CmpR16R16 d r => decide (d = .AX ∧ r = .AX)
  | .x86CmpR8R8 d r => decide (d = .AL ∧ r = .AL)
  | .x86AndR16R16 d r => decide (d = .AX ∧ r = .AX)
  | .x86AndR8R8 d r => decide (d = .AL ∧ r = .AL)
  | .x86OrR16R16 d r => decide (d = .AX ∧ r = .AX)
  | .x86OrR8R8 d r => decide (d = .AL ∧ r = .AL)
  | .x86XorR16R16 d r => decide (d = .AX ∧ r = .AX)
  | .x86XorR8R8 d r => decide (d = .AL ∧ r = .AL)
  | _ => false

/-- The two spellings of one core86 jump (R112, R162, R164). -/
def aliasOf : Instr → Instr
  | .x86Jz t => .x86Je t
  | .x86Jnz t => .x86Jne t
  | i => i

/-- The instructions of the eight mnemonics that compute ZF, SF and PF from a result (R136). -/
def setsResultFlags : Instr → Bool
  | .x86AddR16Imm16 _ _ => true
  | .x86AddR8Imm8 _ _ => true
  | .x86AddR16R16 _ _ => true
  | .x86AddR8R8 _ _ => true
  | .x86AddForm _ _ => true
  | .x86SubR16Imm16 _ _ => true
  | .x86SubR8Imm8 _ _ => true
  | .x86SubR16R16 _ _ => true
  | .x86SubR8R8 _ _ => true
  | .x86SubForm _ _ => true
  | .x86CmpR16Imm16 _ _ => true
  | .x86CmpR8Imm8 _ _ => true
  | .x86CmpR16R16 _ _ => true
  | .x86CmpR8R8 _ _ => true
  | .x86CmpForm _ _ => true
  | .x86AndR16Imm16 _ _ => true
  | .x86AndR8Imm8 _ _ => true
  | .x86AndR16R16 _ _ => true
  | .x86AndR8R8 _ _ => true
  | .x86AndForm _ _ => true
  | .x86OrR16Imm16 _ _ => true
  | .x86OrR8Imm8 _ _ => true
  | .x86OrR16R16 _ _ => true
  | .x86OrR8R8 _ _ => true
  | .x86OrForm _ _ => true
  | .x86XorR16Imm16 _ _ => true
  | .x86XorR8Imm8 _ _ => true
  | .x86XorR16R16 _ _ => true
  | .x86XorR8R8 _ _ => true
  | .x86XorForm _ _ => true
  | .x86IncR16 _ => true
  | .x86IncR8 _ => true
  | .x86DecR16 _ => true
  | .x86DecR8 _ => true
  | _ => false

/-- The instructions that store to memory: MOVX to `@DPTR` or `@Ri` (R63). -/
def storesMemory : Instr → Bool
  | .i51MovxDptrA => true
  | .i51MovxRiA _ => true
  | _ => false

/-- The status of an instruction (R241): `UNKNOWN_INSTRUCTION` for DIV on core86 (R166), `DIV_BY_ZERO` for
DIV AB with B = 0 (R201), else `OK`. -/
def reportedStatus : Instr → State → Status
  | .x86Div, _ => .unknownInstruction
  | .i51DivAB, s => if s.core51.B = 0 then .divByZero else .ok
  | _, _ => .ok

/-! ### Runs and loads -/

/-- Instructions one after another. -/
def execAll : List Instr → State → Result
  | [], s => .next s
  | i :: rest, s =>
    match exec i s with
    | .next t => execAll rest t
    | .fault f => .fault f
    | .refused e => .refused e

/-- The number of bytes of a core's memory (R6). -/
def addressSpace : Arch → Nat
  | .core86 => 2 ^ 20
  | .core51 => 2 ^ 16

/-- What a copy of bytes to `base`, `base + 1`, … leaves at an address of an array of `size` bytes: the last
byte whose wrapped address it is, if any (R61, R66). -/
def loadedByte (size base address : Nat) : List Byte → Option Byte
  | [] => none
  | b :: rest =>
    match loadedByte size (base + 1) address rest with
    | some x => some x
    | none => if base % size = address % size then some b else none

/-- The state with the halt latch set. -/
def latched (s : State) : State := { s with core86 := { s.core86 with halted := true } }

/-! ### Operand text -/

/-- The digits of a radix, in the order of their values (R84). -/
def validDigits (radix : Nat) : List Char := (tok "0123456789ABCDEF").take radix

/-- Digit values written as characters. -/
def digitString {k : Nat} (ds : List (Fin k)) : Token := ds.map fun d => (validDigits 16).getD d.val '?'

/-- The number digit values spell in a radix. -/
def spelled {k : Nat} (radix : Nat) (ds : List (Fin k)) : Nat := ds.foldl (fun acc d => acc * radix + d.val) 0

/-- The register names a core86 operand may be (R131 steps 1, 2). -/
def registerNames86 : List Token :=
  ["AL", "AH", "BL", "BH", "CL", "CH", "DL", "DH", "AX", "BX", "CX", "DX", "SP", "BP", "SI", "DI"].map tok

/-- The core86 names that are refused (R131 step 3). -/
def unreachableNames86 : List Token := ["CS", "DS", "ES", "SS", "IP"].map tok

/-- The names a core51 operand may be (R181 step 1). -/
def operandNames51 : List Token :=
  ["A", "B", "R0", "R1", "R2", "R3", "R4", "R5", "R6", "R7", "DPTR", "AB", "C", "@DPTR", "@R0", "@R1"].map tok

/-- The core51 names that are refused, but for the `@` tokens (R181 step 2). -/
def unreachableNames51 : List Token :=
  ["PC", "SP", "PSW", "ACC", "DPH", "DPL", "P0", "P1", "P2", "P3"].map tok

/-- A register or operand name of a core, admitted or refused (R85, R131, R181; assumption log 10). -/
def OperandName : Arch → Token → Prop
  | .core86, t => t ∈ registerNames86 ∨ t ∈ unreachableNames86
  | .core51, t => t ∈ operandNames51 ∨ t ∈ unreachableNames51 ∨ t.head? = some '@'

/-- A token, or the part after its `#`, to which case 4 of R84 applies: no lower-case letter, sign or marker,
no prefix and no suffix. -/
def PlainBody (t : Token) : Prop :=
  (∀ c ∈ t, c.isLower = false) ∧ t.head? ∉ [some '#', some '-', some '+'] ∧ t.take 2 ≠ ['0', 'X'] ∧
    t.getLast? ≠ some 'H' ∧ t.getLast? ≠ some 'B'

/-- A literal's value fails numeric parsing: the body has no valid leading digit (R85, R244). -/
def NoLeadingDigit (a : Arch) (t : Token) : Prop := ∀ c, t.head? = some c → c ∉ validDigits (defaultRadix a)

end Sys2Proof.Safety
end

