-- ==== Sys2Proof/Certificates/Slice0/Obligations.lean ====
section
/-! DEFINITION. The statements for the provers, each a proposition about the model (OBLIGATIONS.json). -/

set_option autoImplicit false

open Sys2Proof Sys2Proof.Machine Sys2Proof.Safety

/-- MOV completes with R138's effect in all its forms. The general rule is the spec's decision D15. -/
def Obligations.Mov86 : Prop :=
  ∀ s : State,
    (∀ r n, MovEffect86 (exec (.x86MovR16Imm16 r n) s) s (.r16 r) (.lit n.toNat)) ∧
    (∀ r n, MovEffect86 (exec (.x86MovR8Imm8 r n) s) s (.r8 r) (.lit n.toNat)) ∧
    (∀ d r, MovEffect86 (exec (.x86MovR16R16 d r) s) s (.r16 d) (.r16 r)) ∧
    (∀ d r, MovEffect86 (exec (.x86MovR8R8 d r) s) s (.r8 d) (.r8 r)) ∧
    (∀ d src, MovEffect86 (exec (.x86MovForm d src) s) s d src)

/-- ADD completes with R139's sum and flags in all its forms. Width and masking are R135's, the masking of the
inputs the spec's decision D34; OF and AF are the free functions of R137. -/
def Obligations.Add86 : Prop :=
  ∀ s : State,
    (∀ r n, AddEffect86 (exec (.x86AddR16Imm16 r n) s) s (.r16 r) (.lit n.toNat)) ∧
    (∀ r n, AddEffect86 (exec (.x86AddR8Imm8 r n) s) s (.r8 r) (.lit n.toNat)) ∧
    (∀ d r, AddEffect86 (exec (.x86AddR16R16 d r) s) s (.r16 d) (.r16 r)) ∧
    (∀ d r, AddEffect86 (exec (.x86AddR8R8 d r) s) s (.r8 d) (.r8 r)) ∧
    (∀ d src, AddEffect86 (exec (.x86AddForm d src) s) s d src)

/-- SUB completes with R140's difference and flags in all its forms. The masking of the inputs is the spec's
decision D34; OF and AF are the free functions of R137. -/
def Obligations.Sub86 : Prop :=
  ∀ s : State,
    (∀ r n, SubEffect86 (exec (.x86SubR16Imm16 r n) s) s (.r16 r) (.lit n.toNat)) ∧
    (∀ r n, SubEffect86 (exec (.x86SubR8Imm8 r n) s) s (.r8 r) (.lit n.toNat)) ∧
    (∀ d r, SubEffect86 (exec (.x86SubR16R16 d r) s) s (.r16 d) (.r16 r)) ∧
    (∀ d r, SubEffect86 (exec (.x86SubR8R8 d r) s) s (.r8 d) (.r8 r)) ∧
    (∀ d src, SubEffect86 (exec (.x86SubForm d src) s) s d src)

/-- CMP completes with R141's flags and writes no register, a literal first operand included. That CMP is SUB with
the result discarded is the spec's general knowledge (G13); the masking is its decision D34. -/
def Obligations.Cmp86 : Prop :=
  ∀ s : State,
    (∀ r n, CmpEffect86 (exec (.x86CmpR16Imm16 r n) s) s (.r16 r) (.lit n.toNat)) ∧
    (∀ r n, CmpEffect86 (exec (.x86CmpR8Imm8 r n) s) s (.r8 r) (.lit n.toNat)) ∧
    (∀ d r, CmpEffect86 (exec (.x86CmpR16R16 d r) s) s (.r16 d) (.r16 r)) ∧
    (∀ d r, CmpEffect86 (exec (.x86CmpR8R8 d r) s) s (.r8 d) (.r8 r)) ∧
    (∀ l r, CmpEffect86 (exec (.x86CmpForm l r) s) s l r)

/-- INC and DEC complete with the effects of R142 and R143. The width of the 8-bit form is the parameter `W_UNARY8`
(D13); CF, OF and AF are free functions (D14). -/
def Obligations.IncDec86 : Prop :=
  ∀ s : State,
    (∀ r, UnaryEffect86 .inc (fun _ a => a + 1) (exec (.x86IncR16 r) s) s (.r16 r)) ∧
    (∀ r, UnaryEffect86 .inc (fun _ a => a + 1) (exec (.x86IncR8 r) s) s (.r8 r)) ∧
    (∀ r, UnaryEffect86 .dec (fun size a => size + a - 1) (exec (.x86DecR16 r) s) s (.r16 r)) ∧
    (∀ r, UnaryEffect86 .dec (fun size a => size + a - 1) (exec (.x86DecR8 r) s) s (.r8 r))

/-- AND, OR, XOR complete with the results and flags of R144 to R146 in all their forms. The masking of the inputs
is the spec's decision D34; AF is a free function of R137. -/
def Obligations.Logic86 : Prop :=
  ∀ s : State,
    (∀ r n, LogicEffect86 .and (fun x y => x && y) (exec (.x86AndR16Imm16 r n) s) s (.r16 r) (.lit n.toNat)) ∧
    (∀ r n, LogicEffect86 .and (fun x y => x && y) (exec (.x86AndR8Imm8 r n) s) s (.r8 r) (.lit n.toNat)) ∧
    (∀ d r, LogicEffect86 .and (fun x y => x && y) (exec (.x86AndR16R16 d r) s) s (.r16 d) (.r16 r)) ∧
    (∀ d r, LogicEffect86 .and (fun x y => x && y) (exec (.x86AndR8R8 d r) s) s (.r8 d) (.r8 r)) ∧
    (∀ d src, LogicEffect86 .and (fun x y => x && y) (exec (.x86AndForm d src) s) s d src) ∧
    (∀ r n, LogicEffect86 .or (fun x y => x || y) (exec (.x86OrR16Imm16 r n) s) s (.r16 r) (.lit n.toNat)) ∧
    (∀ r n, LogicEffect86 .or (fun x y => x || y) (exec (.x86OrR8Imm8 r n) s) s (.r8 r) (.lit n.toNat)) ∧
    (∀ d r, LogicEffect86 .or (fun x y => x || y) (exec (.x86OrR16R16 d r) s) s (.r16 d) (.r16 r)) ∧
    (∀ d r, LogicEffect86 .or (fun x y => x || y) (exec (.x86OrR8R8 d r) s) s (.r8 d) (.r8 r)) ∧
    (∀ d src, LogicEffect86 .or (fun x y => x || y) (exec (.x86OrForm d src) s) s d src) ∧
    (∀ r n, LogicEffect86 .xor (fun x y => x != y) (exec (.x86XorR16Imm16 r n) s) s (.r16 r) (.lit n.toNat)) ∧
    (∀ r n, LogicEffect86 .xor (fun x y => x != y) (exec (.x86XorR8Imm8 r n) s) s (.r8 r) (.lit n.toNat)) ∧
    (∀ d r, LogicEffect86 .xor (fun x y => x != y) (exec (.x86XorR16R16 d r) s) s (.r16 d) (.r16 r)) ∧
    (∀ d r, LogicEffect86 .xor (fun x y => x != y) (exec (.x86XorR8R8 d r) s) s (.r8 d) (.r8 r)) ∧
    (∀ d src, LogicEffect86 .xor (fun x y => x != y) (exec (.x86XorForm d src) s) s d src)

/-- The result flags of R136, and that no other instruction writes a core86 flag. Which result each of the eight
mnemonics sets them from is in the statements about ADD to XOR. -/
def Obligations.ResultFlags86 : Prop :=
  (∀ (w : Width) (r : Nat) (f : Flags86), r < 2 ^ widthBits w →
      ResultFlags (widthBits w) r (zsp86 r w f) ∧
        (zsp86 r w f).CF = f.CF ∧ (zsp86 r w f).AF = f.AF ∧ (zsp86 r w f).OF = f.OF ∧
        (zsp86 r w f).IF = f.IF ∧ (zsp86 r w f).DF = f.DF ∧ (zsp86 r w f).TF = f.TF) ∧
    ∀ (i : Instr) (s t : State), exec i s = .next t →
      (setsResultFlags i = true → ∃ w r, r < 2 ^ widthBits w ∧ ResultFlags (widthBits w) r t.core86.flags) ∧
      (setsResultFlags i = false → t.core86.flags = s.core86.flags)

/-- The half-register invariant of R21. -/
def Obligations.HalfRegisters86 : Prop :=
  ∀ (c : Core86) (x : R16) (h l : R8) (v : Nat),
    (x, h, l) ∈ [(R16.AX, R8.AH, R8.AL), (R16.BX, R8.BH, R8.BL), (R16.CX, R8.CH, R8.CL),
      (R16.DX, R8.DH, R8.DL)] →
    (c.getR8 h).toNat = (c.getR16 x).toNat / 256 ∧ (c.getR8 l).toNat = (c.getR16 x).toNat % 256 ∧
    ((c.write (.r8 l) v).getR16 x).toNat = 256 * (c.getR8 h).toNat + v % 256 ∧
    ((c.write (.r8 h) v).getR16 x).toNat = 256 * (v % 256) + (c.getR8 l).toNat ∧
    ((c.write (.r16 x) v).getR16 x).toNat = v % 2 ^ 16 ∧
    (c.write (.r8 l) v).getR8 h = c.getR8 h ∧ (c.write (.r8 h) v).getR8 l = c.getR8 l ∧
    ((c.write (.r16 x) v).getR8 h).toNat = v % 2 ^ 16 / 256 ∧
    ((c.write (.r16 x) v).getR8 l).toNat = v % 256

/-- JMP writes its target to IP (R160). -/
def Obligations.Jmp86 : Prop :=
  ∀ s : State,
    (∀ t, JumpEffect86 (exec (.x86Jmp t) s) s True t.toNat) ∧
    (∀ n, JumpEffect86 (exec (.x86JmpLit n) s) s True n)

/-- The conditional jumps complete as R161 to R164 say. The condition is the spec's general knowledge (G15), the
advance of IP its parameter `IP_STEP` (D16). -/
def Obligations.ConditionalJumps86 : Prop :=
  ∀ s : State,
    (∀ t, JumpEffect86 (exec (.x86Je t) s) s (s.core86.flags.ZF = true) t.toNat) ∧
    (∀ n, JumpEffect86 (exec (.x86JeLit n) s) s (s.core86.flags.ZF = true) n) ∧
    (∀ t, JumpEffect86 (exec (.x86Jz t) s) s (s.core86.flags.ZF = true) t.toNat) ∧
    (∀ n, JumpEffect86 (exec (.x86JzLit n) s) s (s.core86.flags.ZF = true) n) ∧
    (∀ t, JumpEffect86 (exec (.x86Jne t) s) s (s.core86.flags.ZF = false) t.toNat) ∧
    (∀ n, JumpEffect86 (exec (.x86JneLit n) s) s (s.core86.flags.ZF = false) n) ∧
    (∀ t, JumpEffect86 (exec (.x86Jnz t) s) s (s.core86.flags.ZF = false) t.toNat) ∧
    (∀ n, JumpEffect86 (exec (.x86JnzLit n) s) s (s.core86.flags.ZF = false) n)

/-- HLT (R165): the latch, the caller's skip, and that the engine itself does not skip. The clause on the step
rests on the spec's decision D29 (R267) and on the model's session (assumption log 4); the one on a halted core86
on the sentence that R26 marks as derived. -/
def Obligations.Hlt86 : Prop :=
  (∀ s : State, ∃ t, exec .x86Hlt s = .next t ∧ OnlyCore86 s t .ok ∧
      t.core86 = { s.core86 with halted := true, IP := t.core86.IP }) ∧
    (∀ s : State, s.session.selected = .core86 → s.core86.halted = true → step s = .next s) ∧
    ∀ (i : Instr) (s t : State), exec i s = .next t → exec i (latched s) = .next (latched t)

/-- DIV is the one mnemonic core86 is known not to support (R166): nothing changes, IP included. That IP does not
move is derived by the spec. -/
def Obligations.Div86 : Prop :=
  (∀ (ops : List Token) (line : Option Nat),
      resolve .core86 { mnemonic := tok "DIV", operands := ops, sourceLine := line } = .ok .x86Div) ∧
    ∀ s : State, ∃ t, exec .x86Div s = .next t ∧ OnlyCore86 s t .unknownInstruction ∧ t.core86 = s.core86

/-- The advance of IP and PC (R169, R229), the spec's parameters `IP_STEP` (D16) and `PCW51` (D17). -/
def Obligations.PointerAdvance : Prop :=
  (∀ (i : Instr) (s t : State), i.arch = .core86 → takenJump i s = false → exec i s = .next t →
    t.core86.IP.toNat =
      if i = .x86Div then s.core86.IP.toNat else (s.core86.IP.toNat + s.params.ipStep.val) % 2 ^ 16) ∧
  ∀ (i : Instr) (s t : State), i.arch = .core51 → takenJump i s = false → exec i s = .next t →
    if i = .i51DivAB ∧ s.core51.B = 0 then t.core51.PC = s.core51.PC
    else t.core51.PC.toNat = (s.core51.PC.toNat + s.params.ipStep.val) % 2 ^ pcBits s.params.pcWidth

/-- The 8-bit MOV completes as R184 says. The general rule is the spec's decision D15; that P follows A is D19. -/
def Obligations.Mov51 : Prop :=
  ∀ s : State,
    (∀ n, ByteEffect51 (exec (.i51MovAImm n) s) s .A n.toNat) ∧
    (∀ n, ByteEffect51 (exec (.i51MovBImm n) s) s .B n.toNat) ∧
    (∀ r n, ByteEffect51 (exec (.i51MovRnImm r n) s) s (.R r) n.toNat) ∧
    (∀ r, ByteEffect51 (exec (.i51MovARn r) s) s .A (s.core51.getR r).toNat) ∧
    (∀ r, ByteEffect51 (exec (.i51MovRnA r) s) s (.R r) s.core51.A.toNat) ∧
    ByteEffect51 (exec .i51MovAB s) s .A s.core51.B.toNat ∧
    ByteEffect51 (exec .i51MovBA s) s .B s.core51.A.toNat ∧
    (∀ r, ByteEffect51 (exec (.i51MovBRn r) s) s .B (s.core51.getR r).toNat) ∧
    (∀ r, ByteEffect51 (exec (.i51MovRnB r) s) s (.R r) s.core51.B.toNat) ∧
    (∀ d src, ByteEffect51 (exec (.i51MovForm d src) s) s d (sourceValue51 s.core51 src))

/-- MOV DPTR completes as R185 says. -/
def Obligations.MovDptr51 : Prop :=
  ∀ s : State,
    (∀ n, DptrEffect51 (exec (.i51MovDptrImm n) s) s n.toNat) ∧
    (∀ n, DptrEffect51 (exec (.i51MovDptrLit n) s) s n)

/-- MOVX A, @DPTR (R186), and that MOVX is the only path to the external memory. That P follows this write of A is
the spec's decision D19. -/
def Obligations.MovxLoadDptr51 : Prop :=
  (∀ s : State, ByteEffect51 (exec .i51MovxADptr s) s .A (s.core51.memRead s.core51.DPTR.toNat).toNat) ∧
    ∀ (i : Instr) (s t : State) (m : Memory), storesMemory i = false → i ≠ .i51MovxADptr →
      (∀ x, i ≠ .i51MovxARi x) → exec i s = .next t →
      exec i { s with core51 := { s.core51 with mem := m } } = .next { t with core51 := { t.core51 with mem := m } }

/-- MOVX A, @Ri (R188). The registers and the zero extension are the spec's decision D22, that P follows this write
of A its decision D19. -/
def Obligations.MovxLoadRi51 : Prop :=
  ∀ s : State,
    ByteEffect51 (exec (.i51MovxARi .R0) s) s .A (s.core51.memRead s.core51.R0.toNat).toNat ∧
    ByteEffect51 (exec (.i51MovxARi .R1) s) s .A (s.core51.memRead s.core51.R1.toNat).toNat

/-- MOVX @DPTR, A (R187). The invariant rules out memories not in canonical form, which no run reaches. -/
def Obligations.MovxStoreDptr51 : Prop :=
  ∀ s : State, Invariant s → StoreEffect51 (exec .i51MovxDptrA s) s s.core51.DPTR.toNat

/-- MOVX @Ri, A (R189). The registers and the zero extension are the spec's decision D22. -/
def Obligations.MovxStoreRi51 : Prop :=
  ∀ s : State, Invariant s →
    StoreEffect51 (exec (.i51MovxRiA .R0) s) s s.core51.R0.toNat ∧
    StoreEffect51 (exec (.i51MovxRiA .R1) s) s s.core51.R1.toNat

/-- The 8-bit INC and DEC (R190, R191), which the spec admits by its decision D23; that P follows A is D19. -/
def Obligations.IncDec51 : Prop :=
  ∀ s : State,
    ByteEffect51 (exec .i51IncA s) s .A (s.core51.A.toNat + 1) ∧
    ByteEffect51 (exec .i51IncB s) s .B (s.core51.B.toNat + 1) ∧
    (∀ r, ByteEffect51 (exec (.i51IncRn r) s) s (.R r) ((s.core51.getR r).toNat + 1)) ∧
    ByteEffect51 (exec .i51DecA s) s .A (256 + s.core51.A.toNat - 1) ∧
    ByteEffect51 (exec .i51DecB s) s .B (256 + s.core51.B.toNat - 1) ∧
    (∀ r, ByteEffect51 (exec (.i51DecRn r) s) s (.R r) (256 + (s.core51.getR r).toNat - 1))

/-- INC DPTR (R192) and DEC DPTR (R193). -/
def Obligations.IncDecDptr51 : Prop :=
  ∀ s : State,
    DptrEffect51 (exec .i51IncDptr s) s (s.core51.DPTR.toNat + 1) ∧
    DptrEffect51 (exec .i51DecDptr s) s (65536 + s.core51.DPTR.toNat - 1)

/-- MUL AB (R200). -/
def Obligations.Mul51 : Prop :=
  ∀ s : State, ∃ t, exec .i51MulAB s = .next t ∧ OnlyAccumulators51 s t ∧
    t.core51.A.toNat = s.core51.A.toNat * s.core51.B.toNat % 256 ∧
    t.core51.B.toNat = s.core51.A.toNat * s.core51.B.toNat / 256 ∧
    t.core51.flags.C = false ∧
    (t.core51.flags.OV = true ↔ t.core51.B ≠ 0) ∧ ParityOfA s t

/-- DIV AB (R201). What a division by a nonzero B does to C and OV is a parameter of the spec (D20). -/
def Obligations.Div51 : Prop :=
  ∀ s : State,
    (s.core51.B ≠ 0 → ∃ t, exec .i51DivAB s = .next t ∧ OnlyAccumulators51 s t ∧
      s.core51.A.toNat = t.core51.A.toNat * s.core51.B.toNat + t.core51.B.toNat ∧
      t.core51.B.toNat < s.core51.B.toNat ∧ ParityOfA s t ∧
      t.core51.flags.C = (match s.params.divC with | .keep => s.core51.flags.C | .clear => false) ∧
      t.core51.flags.OV = (match s.params.divOV with | .keep => s.core51.flags.OV | .clear => false)) ∧
    (s.core51.B = 0 → ∃ t, exec .i51DivAB s = .next t ∧ OnlyCore51 s t .divByZero ∧
      t.core51 = { s.core51 with flags := { s.core51.flags with OV := true } })

/-- RLC A (R202), with its corner case of nine rotations. -/
def Obligations.Rlc51 : Prop :=
  (∀ s : State, ∃ t, exec .i51RlcA s = .next t ∧ OnlyAccumulators51 s t ∧
      t.core51.A.toNat = (2 * s.core51.A.toNat + (if s.core51.flags.C = true then 1 else 0)) % 256 ∧
      (t.core51.flags.C = true ↔ 128 ≤ s.core51.A.toNat) ∧ t.core51.B = s.core51.B ∧
      t.core51.flags.OV = s.core51.flags.OV ∧ ParityOfA s t) ∧
    ∀ s : State, ∃ t, execAll (List.replicate 9 .i51RlcA) s = .next t ∧ t.core51.A = s.core51.A ∧
      t.core51.flags.C = s.core51.flags.C

/-- RRC A (R203), with its corner cases. -/
def Obligations.Rrc51 : Prop :=
  (∀ s : State, ∃ t, exec .i51RrcA s = .next t ∧ OnlyAccumulators51 s t ∧
      t.core51.A.toNat = s.core51.A.toNat / 2 + (if s.core51.flags.C = true then 128 else 0) ∧
      (t.core51.flags.C = true ↔ s.core51.A.toNat % 2 = 1) ∧ t.core51.B = s.core51.B ∧
      t.core51.flags.OV = s.core51.flags.OV ∧ ParityOfA s t) ∧
    ∀ s : State,
      (∃ t, execAll [.i51RlcA, .i51RrcA] s = .next t ∧ t.core51.A = s.core51.A ∧
        t.core51.flags.C = s.core51.flags.C) ∧
      ∃ t, execAll (List.replicate 9 .i51RrcA) s = .next t ∧ t.core51.A = s.core51.A ∧
        t.core51.flags.C = s.core51.flags.C

/-- The carry instructions (R204 to R206). That CLR A, CLR 20H and CPL A are refused is the spec's decisions D21,
D25 (R194, assumption log 21). -/
def Obligations.Carry51 : Prop :=
  (∀ s : State,
      CarryEffect51 (exec .i51ClrC s) s false ∧ CarryEffect51 (exec .i51SetbC s) s true ∧
      CarryEffect51 (exec .i51CplC s) s (!s.core51.flags.C)) ∧
    ∀ s : State,
      executeRecord .core51 { mnemonic := tok "CLR", operands := [tok "A"] } s =
        .refused (.inadmissibleForm .core51 (tok "CLR")) ∧
      executeRecord .core51 { mnemonic := tok "CLR", operands := [tok "20H"] } s =
        .refused (.inadmissibleForm .core51 (tok "CLR")) ∧
      executeRecord .core51 { mnemonic := tok "CPL", operands := [tok "A"] } s =
        .refused (.inadmissibleForm .core51 (tok "CPL"))

/-- The jumps of core51 (R221 to R225). The conditions are the spec's general knowledge (G16); the width of PC is
its parameter `PCW51` (D17), the advance `IP_STEP` (D16). -/
def Obligations.Jumps51 : Prop :=
  ∀ s : State,
    (∀ t, JumpEffect51 (exec (.i51Sjmp t) s) s True t.toNat) ∧
    (∀ n, JumpEffect51 (exec (.i51SjmpLit n) s) s True n) ∧
    (∀ t, JumpEffect51 (exec (.i51Jz t) s) s (s.core51.A = 0) t.toNat) ∧
    (∀ n, JumpEffect51 (exec (.i51JzLit n) s) s (s.core51.A = 0) n) ∧
    (∀ t, JumpEffect51 (exec (.i51Jnz t) s) s (s.core51.A ≠ 0) t.toNat) ∧
    (∀ n, JumpEffect51 (exec (.i51JnzLit n) s) s (s.core51.A ≠ 0) n) ∧
    (∀ t, JumpEffect51 (exec (.i51Jc t) s) s (s.core51.flags.C = true) t.toNat) ∧
    (∀ n, JumpEffect51 (exec (.i51JcLit n) s) s (s.core51.flags.C = true) n) ∧
    (∀ t, JumpEffect51 (exec (.i51Jnc t) s) s (s.core51.flags.C = false) t.toNat) ∧
    (∀ n, JumpEffect51 (exec (.i51JncLit n) s) s (s.core51.flags.C = false) n)

/-- A jump does not redirect execution (R171, R228). The step and its cursor are the spec's decision D29 (R267),
the session that holds cursor and selection the model's (assumption log 4). -/
def Obligations.JumpsDoNotRedirect : Prop :=
  (∀ (s t : State) (r : Record), s.session.listing[s.session.cursor]? = some r →
      haltCheck s.session.selected s = false → step s = .next t →
      t.session.cursor = s.session.cursor + 1 ∧ t.session.listing = s.session.listing ∧
        t.session.selected = s.session.selected) ∧
    ∀ (i : Instr) (s t : State), takenJump i s = true → exec i s = .next t →
      t.core86 = { s.core86 with IP := t.core86.IP } ∧ t.core51 = { s.core51 with PC := t.core51.PC }

/-- The status of an instruction (R241), the spec's abstraction of the trace string (D28); that the model keeps the
statuses in the session's log is assumption log 4. -/
def Obligations.ReportedStatus : Prop :=
  ∀ (i : Instr) (s t : State), exec i s = .next t →
    t.session = { s.session with log := s.session.log ++ [reportedStatus i s] }

/-- No exception exists (R240). What is refused is a record with no meaning, before any instruction runs. -/
def Obligations.NeverStops : Prop :=
  (∀ (i : Instr) (s : State), ∃ t, exec i s = .next t) ∧
    ∀ (a : Arch) (r : Record) (i : Instr) (s : State), resolve a r = .ok i →
      ∃ t, executeRecord a r s = .next t

/-- The inert cells. That PSW and the ports are opaque cells is the spec's decisions D31, D32. -/
def Obligations.InertCells : Prop :=
  ∀ (x : Transaction) (s t : State), perform x s = .next t →
    (x ≠ .reset .core86 →
      t.core86.CS = s.core86.CS ∧ t.core86.DS = s.core86.DS ∧ t.core86.ES = s.core86.ES ∧
      t.core86.SS = s.core86.SS ∧ t.core86.flags.IF = s.core86.flags.IF ∧
      t.core86.flags.DF = s.core86.flags.DF ∧ t.core86.flags.TF = s.core86.flags.TF ∧
      (s.core86.halted = true → t.core86.halted = true)) ∧
    (x ≠ .reset .core51 → Inert51 s.core51 t.core51)

/-- The halt latch (R26). -/
def Obligations.HaltLatch : Prop :=
  (∀ (i : Instr) (s t : State), exec i s = .next t →
      (t.core86.halted = true ↔ s.core86.halted = true ∨ i = .x86Hlt)) ∧
    (∀ s : State, (resetCore .core86 s).core86.halted = false) ∧
    ∀ (x : Transaction) (s t : State), perform x s = .next t → x ≠ .reset .core86 →
      t.core86.halted ≠ s.core86.halted →
      ∃ r, x = .execute .core86 r ∧ resolve .core86 r = .ok .x86Hlt

/-- Which instructions reach memory (R63; derived by the spec for core86). -/
def Obligations.InstructionsAndMemory : Prop :=
  ∀ (i : Instr) (s t : State), exec i s = .next t →
    t.core86.mem = s.core86.mem ∧ (storesMemory i = false → t.core51.mem = s.core51.mem) ∧
    ∀ m : Memory, exec i { s with core86 := { s.core86 with mem := m } } =
      .next { t with core86 := { t.core86 with mem := m } }

/-- The two cores share nothing (R45). -/
def Obligations.CoresIsolated : Prop :=
  (∀ (x : Transaction) (s t : State), perform x s = .next t →
      t.params = s.params ∧ t.resetRecord86 = s.resetRecord86 ∧ t.resetRecord51 = s.resetRecord51 ∧
      (transactionCore x = .core86 → t.core51 = s.core51) ∧
      (transactionCore x = .core51 → t.core86 = s.core86)) ∧
    (∀ (x : Transaction) (s s' t : State), perform x s = .next t → transactionCore x = .core86 →
      s'.core86 = s.core86 → s'.params = s.params → s'.resetRecord86 = s.resetRecord86 →
      ∃ t', perform x s' = .next t' ∧ t'.core86 = t.core86) ∧
    (∀ (x : Transaction) (s s' t : State), perform x s = .next t → transactionCore x = .core51 →
      s'.core51 = s.core51 → s'.params = s.params → s'.resetRecord51 = s.resetRecord51 →
      ∃ t', perform x s' = .next t' ∧ t'.core51 = t.core51) ∧
    ∀ (a : Arch) (s : State), (selectCore a s).core86 = s.core86 ∧ (selectCore a s).core51 = s.core51

/-- The invariant of R38, R41 and R61 at every instruction boundary, from every state that has it. That P follows
every write of A is the spec's decision D19; the canonical form of memory is the model's (assumption log 3). -/
def Obligations.StepKeepsInvariant : Prop :=
  ∀ s t : State, Invariant s → step s = .next t → Invariant t

/-- The invariant under the host's transactions (R276). The canonical form of memory is the model's (assumption log
3). -/
def Obligations.TransactionsKeepInvariant : Prop :=
  ∀ (x : Transaction) (s t : State), Invariant s → perform x s = .next t → Invariant t

/-- The invariant at reset. The values of the reset records are the spec's defaults (D26, assumption log 3). -/
def Obligations.ResetSatisfiesInvariant : Prop :=
  Invariant State.reset

/-- Reset (R260, R261). The contents of the records are the spec's open parameter D26; `State.reset` takes the
default ones (assumption log 3). That the ports, P and PC of a record that breaks the rules, and its halt latch,
are not taken from it is the model's choice (assumption log 23). The host's cursor is the spec's decision D29
(R267). -/
def Obligations.ResetEffect : Prop :=
  (∀ s : State, (resetCore .core86 s).core86 = { s.resetRecord86 with halted := false } ∧
      resetCore .core86 s = { s with core86 := (resetCore .core86 s).core86 }) ∧
    (∀ s : State, resetCore .core51 s = { s with core51 := (resetCore .core51 s).core51 } ∧
      (resetCore .core51 s).core51 = { s.resetRecord51 with
        P0 := 0xFF, P1 := 0xFF, P2 := 0xFF, P3 := 0xFF
        flags := { s.resetRecord51.flags with P := par51 s.params.parityOdd s.resetRecord51.A }
        PC := (resetCore .core51 s).core51.PC } ∧
      (resetCore .core51 s).core51.PC.toNat = s.resetRecord51.PC.toNat % 2 ^ pcBits s.params.pcWidth) ∧
    (∀ (c : Arch) (s : State), hostReset c s =
      { resetCore c s with session := { s.session with cursor := 0 } }) ∧
    State.reset.core86 = {
      AX := 0, BX := 0, CX := 0, DX := 0, SP := 0, BP := 0, SI := 0, DI := 0
      IP := 0, CS := 0, DS := 0, ES := 0, SS := 0
      flags := { CF := false, PF := false, AF := false, ZF := false, SF := false, OF := false
                 IF := false, DF := false, TF := false }
      halted := false, mem := State.reset.core86.mem } ∧
    (∀ a, State.reset.core86.memRead a = 0) ∧
    State.reset.core51 = {
      A := 0, B := 0, R0 := 0, R1 := 0, R2 := 0, R3 := 0, R4 := 0, R5 := 0, R6 := 0, R7 := 0
      DPTR := 0, PC := 0, SP := 0, PSW := 0
      flags := { C := false, AC := false, OV := false, P := false }
      P0 := 0xFF, P1 := 0xFF, P2 := 0xFF, P3 := 0xFF, mem := State.reset.core51.mem } ∧
    (∀ a, State.reset.core51.memRead a = 0) ∧
    State.reset.resetRecord86 = State.reset.core86 ∧ State.reset.resetRecord51 = State.reset.core51

/-- The host's memory transactions (R264). -/
def Obligations.HostMemory : Prop :=
  ∀ (a : Arch) (s : State) (x y v : Nat), Invariant s →
    readMemory a y (writeMemory a x v s) =
      (if y % addressSpace a = x % addressSpace a then BitVec.ofNat 8 v else readMemory a y s) ∧
    readMemory a (y + addressSpace a) s = readMemory a y s ∧
    writeMemory a x v s = { s with
      core86 := { s.core86 with mem := (writeMemory a x v s).core86.mem }
      core51 := { s.core51 with mem := (writeMemory a x v s).core51.mem } } ∧
    (a = .core86 → (writeMemory a x v s).core51 = s.core51) ∧
    (a = .core51 → (writeMemory a x v s).core86 = s.core86)

/-- The load transactions (R262, R263), with the spec's decision D27 that they write nothing else. -/
def Obligations.LoadTransactions : Prop :=
  (∀ (a : Arch) (bytes : List Byte) (s : State) (x : Nat), Invariant s →
      readMemory a x (loadProgram a bytes s) =
        (loadedByte (addressSpace a) 0 x bytes).getD (readMemory a x s)) ∧
    (∀ (base : Nat) (values : List Byte) (s : State) (x : Nat), Invariant s →
      readMemory .core51 x (loadExternalMemory base values s) =
        (loadedByte (addressSpace .core51) base x values).getD (readMemory .core51 x s)) ∧
    (∀ (bytes : List Byte) (s : State), loadProgram .core86 bytes s =
      { s with core86 := { s.core86 with IP := 0, mem := (loadProgram .core86 bytes s).core86.mem } }) ∧
    (∀ (bytes : List Byte) (s : State), loadProgram .core51 bytes s =
      { s with core51 := { s.core51 with PC := 0, mem := (loadProgram .core51 bytes s).core51.mem } }) ∧
    ∀ (base : Nat) (values : List Byte) (s : State), loadExternalMemory base values s =
      { s with core51 := { s.core51 with mem := (loadExternalMemory base values s).core51.mem } }

/-- P is a function of A at every instruction boundary (R38). The polarity is the spec's parameter D18 (conflict
C1), that P follows every write of A its decision D19. -/
def Obligations.ParityOfAccumulator : Prop :=
  ∀ s t : State, Invariant s → step s = .next t →
    (t.core51.flags.P = true ↔
      setBits t.core51.A.toNat % 2 = if t.params.parityOdd = true then 1 else 0)

/-- A step runs the instruction (R267). The machine fetches from the session's listing, not from memory; the cursor
and the step are the spec's decision D29 (assumption log 4). -/
def Obligations.StepRunsTheListing : Prop :=
  ∀ s : State,
    (s.session.listing[s.session.cursor]? = none → step s = .next s) ∧
    (s.session.selected = .core86 → s.core86.halted = true → step s = .next s) ∧
    ∀ r, s.session.listing[s.session.cursor]? = some r →
      ¬(s.session.selected = .core86 ∧ s.core86.halted = true) →
      (∀ i, resolve s.session.selected r = .ok i →
        ∃ t, exec i s = .next t ∧
          step s = .next { t with session := { t.session with cursor := t.session.cursor + 1 } }) ∧
      ∀ e, resolve s.session.selected r = .error e → step s = .refused e

/-- The step and the decoder meet. That decoded bytes are run through the record their disassembly spells is the
model's choice (assumption log 5): the spec's decoder does not feed the engine (R3, D1). -/
def Obligations.StepRunsTheDecodedWord : Prop :=
  ∀ (nbits w : Nat) (i : Instr) (s : State), decodeTableWord nbits w = some i →
    wellFormed i = true ∧
    ∃ t, exec i (s.withFetchWord nbits w) = .next t ∧
      step (s.withFetchWord nbits w) = .next { t with session := { t.session with cursor := 1 } }

/-- Run and step agree (R267). The sequencer's details are the spec's decisions D29, D30; where the cursor stands
after a run is the model's choice (assumption log 29). -/
def Obligations.RunIsStepping : Prop :=
  ∀ (a : Arch) (l : List Record) (s : State) (k : Nat), l.length ≤ k →
    match runListing a l (setListing l (selectCore a s)) with
    | .next t => ∃ n, n ≤ l.length ∧ (n = l.length ∨ (a = .core86 ∧ t.core86.halted = true)) ∧
        Host.Core.run Sys2Proof.core k (setListing l (selectCore a s)) =
          .next { t with session := { t.session with cursor := n } }
    | .fault _ => False
    | .refused e =>
        Host.Core.run Sys2Proof.core k (setListing l (selectCore a s)) = .refused e

/-- Jumps do not loop (R269), a run executes the listing in order and terminates (R266, R274). The order of check
and execute, the end of a run and what runProgram does are the spec's decisions D29, D30; the session is the
model's (assumption log 4), and that runProgram selects its core its choice (assumption log 28). -/
def Obligations.RunExecutesEachEntryOnce : Prop :=
  (∀ (l : List Record) (is : List Instr) (s : State), l.map (resolve .core51) = is.map Except.ok →
      runListing .core51 l s = execAll is s) ∧
    (∀ (l : List Record) (is : List Instr) (s : State), s.core86.halted = false →
      l.map (resolve .core86) = is.map Except.ok → .x86Hlt ∉ is →
      runListing .core86 l s = execAll is s ∧
        ∀ (r : Record) (m : List Record), resolve .core86 r = .ok .x86Hlt →
          runListing .core86 (l ++ r :: m) s = execAll (is ++ [.x86Hlt]) s) ∧
    (∀ (l : List Record) (s : State), s.core86.halted = true → runListing .core86 l s = .next s) ∧
    (∀ (is : List Instr) (s : State), ∃ t, execAll is s = .next t ∧
      t.session.log.length = s.session.log.length + is.length) ∧
    (∀ (l m : List Record) (r : Record) (s : State), resolve .core86 r = .ok .x86Hlt →
      runListing .core86 (l ++ r :: m) s = runListing .core86 (l ++ [r]) s) ∧
    ∀ (a : Arch) (table : Table) (text : List Char) (out : Assembly) (l m : List Record) (is : List Instr)
      (s : State), assemble a table text = .ok out → listingOf text = l ++ m →
      l.map (resolve a) = is.map Except.ok →
      (a = .core51 → m = []) → (a = .core86 → .x86Hlt ∉ is ∧ m = [] ∨ ∃ js, is = js ++ [.x86Hlt] ∧ .x86Hlt ∉ js) →
      runProgram a table text s = execAll is
        (setListing (listingOf text) (loadProgram a (assemblyBytes out) (selectCore a (hostReset a s))))

/-- Safety of runs: nothing the machine does can stop it (R240). The step is the spec's decision D29, the session
that holds its listing the model's (assumption log 4). -/
def Obligations.AdmittedListingNeverStops : Prop :=
  (∀ s : State, ListingAdmitted s → ∃ t, step s = .next t ∧ ListingAdmitted t) ∧
    ∀ (s : State) (k : Nat), ListingAdmitted s → RunsFor k s

/-- Byte order of multi-byte fields (R65). That `rel16` is a field of two bytes in this order is the spec's
decision D5, the tables its decision D2. -/
def Obligations.ByteOrder : Prop :=
  (∀ e ∈ tableEntries optab86, e.bigEndian = false) ∧
    (∀ e ∈ tableEntries optab51, ∀ m p, Pattern.field m p ∈ e.template → placeholderSize p = 2 →
      e.bigEndian = true ∧ e.mnemonic = tok "MOV" ∧ e.template.head? = some (.fixed (tok "DPTR"))) ∧
    (∀ v, v < 2 ^ 16 →
      fieldBytes false 2 v = [BitVec.ofNat 8 (v % 256), BitVec.ofNat 8 (v / 256)] ∧
      fieldBytes true 2 v = [BitVec.ofNat 8 (v / 256), BitVec.ofNat 8 (v % 256)] ∧
      fieldValue false (fieldBytes false 2 v) = v ∧ fieldValue true (fieldBytes true 2 v) = v) ∧
    (∀ make ∈ [Instr.x86MovR16Imm16, .x86AddR16Imm16, .x86SubR16Imm16, .x86CmpR16Imm16, .x86AndR16Imm16,
        .x86OrR16Imm16, .x86XorR16Imm16],
      ∀ r n, ∃ lead, encode (make r n) = some (lead ++ fieldBytes false 2 n.toNat)) ∧
    (∀ t, ∃ lead, encode (.x86Jmp t) = some (lead ++ fieldBytes false 2 t.toNat)) ∧
    ∀ n, ∃ lead, encode (.i51MovDptrImm n) = some (lead ++ fieldBytes true 2 n.toNat)

/-- One decode step (R92, R93). What an entry that runs past the buffer answers is the spec's decision D6 (R94). -/
def Obligations.FirstByteSelects : Prop :=
  ∀ (table : Table) (before rest : List Byte) (b : Byte),
    ((∀ e ∈ tableEntries table, e.lead.head? ≠ some b) →
      decodeAt table (before ++ b :: rest) before.length = some (.unknown b, 1)) ∧
    ∀ (pre post : List Entry) (e : Entry), tableEntries table = pre ++ e :: post →
      (∀ e' ∈ pre, e'.lead.head? ≠ some b) → e.lead.head? = some b →
      (e.len ≤ rest.length + 1 →
        decodeAt table (before ++ b :: rest) before.length =
          some (.known e (fieldValues e.bigEndian e.template ((b :: rest).drop e.lead.length)), e.len)) ∧
      (rest.length + 1 < e.len →
        decodeAt table (before ++ b :: rest) before.length = some (.unknown b, 1))

/-- The bytes that spell no instruction (R109), with the reference tables (D2 to D4). -/
def Obligations.UnknownBytes : Prop :=
  (∀ b : Byte, (selectEntry optab86 b).isSome =
      (([0x02, 0x03, 0x0A, 0x0B, 0x22, 0x23, 0x2A, 0x2B, 0x32, 0x33, 0x3A, 0x3B, 0x74, 0x75, 0x80, 0x81,
        0x8A, 0x8B, 0xE9, 0xF4, 0xFE] : List Byte).contains b ||
        decide (0x40#8 ≤ b ∧ b ≤ 0x4F#8) || decide (0xB0#8 ≤ b ∧ b ≤ 0xBF#8))) ∧
    ∀ b : Byte, (selectEntry optab51 b).isSome =
      (([0x04, 0x05, 0x13, 0x14, 0x15, 0x33, 0x40, 0x50, 0x60, 0x70, 0x74, 0x75, 0x80, 0x84, 0x90, 0xA3,
        0xA4, 0xA5, 0xB3, 0xC3, 0xD3, 0xE0, 0xE2, 0xE3, 0xE5, 0xF0, 0xF2, 0xF3, 0xF5] : List Byte).contains b ||
        decide (0x08#8 ≤ b ∧ b ≤ 0x0F#8) || decide (0x18#8 ≤ b ∧ b ≤ 0x1F#8) ||
        decide (0x78#8 ≤ b ∧ b ≤ 0x7F#8) || decide (0x88#8 ≤ b ∧ b ≤ 0x8F#8) ||
        decide (0xA8#8 ≤ b ∧ b ≤ 0xAF#8) || decide (0xE8#8 ≤ b ∧ b ≤ 0xEF#8) || decide (0xF8#8 ≤ b))

/-- A sanity check of the decoder against the encoding tables. The bytes are the spec's general knowledge (G7, G8).
-/
def Obligations.DecodeWords : Prop :=
  decode .core86 [0xB8, 0x0A, 0x00] = some (.x86MovR16Imm16 .AX 10, 3) ∧
    decode .core86 [0xB7, 0x7F] = some (.x86MovR8Imm8 .BH 0x7F, 2) ∧
    decode .core86 [0x81, 0xC0, 0x34, 0x12] = some (.x86AddR16Imm16 .AX 0x1234, 4) ∧
    decode .core86 [0x81, 0xE8, 0x34, 0x12] = some (.x86AddR16Imm16 .AX 0x1234, 4) ∧
    decode .core86 [0x80, 0xC0, 0x05] = some (.x86AddR8Imm8 .AL 5, 3) ∧
    decode .core86 [0xFE, 0xC0] = some (.x86IncR8 .AL, 2) ∧
    decode .core86 [0x2B, 0xC0] = some (.x86SubR16R16 .AX .AX, 2) ∧
    decode .core86 [0x4F] = some (.x86DecR16 .DI, 1) ∧
    decode .core86 [0xE9, 0x07, 0x01] = some (.x86Jmp 0x0107, 3) ∧
    decode .core86 [0x74, 0x02] = some (.x86Je 2, 2) ∧
    decode .core86 [0xF4] = some (.x86Hlt, 1) ∧
    decode .core51 [0x74, 0x03] = some (.i51MovAImm 3, 2) ∧
    decode .core51 [0x7F, 0xFE] = some (.i51MovRnImm .R7 0xFE, 2) ∧
    decode .core51 [0xEB] = some (.i51MovARn .R3, 1) ∧
    decode .core51 [0x05, 0xF0] = some (.i51IncB, 2) ∧
    decode .core51 [0x90, 0x85, 0x00] = some (.i51MovDptrImm 0x8500, 3) ∧
    decode .core51 [0x75, 0xF0, 0x04] = some (.i51MovBImm 4, 3) ∧
    decode .core51 [0x8B, 0xF0] = some (.i51MovBRn .R3, 2) ∧
    decode .core51 [0xF3] = some (.i51MovxRiA .R1, 1) ∧
    decode .core51 [0xA4] = some (.i51MulAB, 1) ∧
    decode .core51 [0x50, 0x04] = some (.i51Jnc 4, 2)

/-- The round trip of the encoder and the decoder: all entries of core51 are reachable, those of core86 that R108
lists. -/
def Obligations.DecodeEncode : Prop :=
  (∀ (i : Instr) (bs rest : List Byte), i.arch = .core51 → encode i = some bs →
    decode .core51 (bs ++ rest) = some (i, bs.length)) ∧
  ∀ (i : Instr) (rest : List Byte), reachable86 i = true →
    ∃ bs, encode i = some bs ∧ decode .core86 (bs ++ rest) = some (i, bs.length)

/-- Shadowed entries of core86 (R108), with the reference table (D2, D3). -/
def Obligations.ShadowedDecode86 : Prop :=
  (∀ (i : Instr) (bs rest : List Byte), i.arch = .core86 → encode i = some bs →
      ∃ j bs', decode .core86 (bs ++ rest) = some (j, bs.length) ∧ reachable86 j = true ∧
        encode j = some bs' ∧ bs'.head? = bs.head? ∧ bs'.length = bs.length) ∧
    ∀ (t : Byte) (rest : List Byte),
      decode .core86 (0x74 :: t :: rest) = some (.x86Je t, 2) ∧ encode (.x86Jz t) = some [0x74, t] ∧
      decode .core86 (0x75 :: t :: rest) = some (.x86Jne t, 2) ∧ encode (.x86Jnz t) = some [0x75, t] ∧
      (∀ make ∈ [Instr.x86AddR16Imm16, .x86SubR16Imm16, .x86CmpR16Imm16, .x86AndR16Imm16, .x86OrR16Imm16,
          .x86XorR16Imm16],
        ∀ r n, ∃ bs, encode (make r n) = some bs ∧
          decode .core86 (bs ++ rest) = some (.x86AddR16Imm16 .AX n, 4)) ∧
      (∀ make ∈ [Instr.x86AddR8Imm8, .x86SubR8Imm8, .x86CmpR8Imm8, .x86AndR8Imm8, .x86OrR8Imm8, .x86XorR8Imm8],
        ∀ r n, ∃ bs, encode (make r n) = some bs ∧ decode .core86 (bs ++ rest) = some (.x86AddR8Imm8 .AL n, 3)) ∧
      (∀ make ∈ [Instr.x86IncR8, .x86DecR8],
        ∀ r, ∃ bs, encode (make r) = some bs ∧ decode .core86 (bs ++ rest) = some (.x86IncR8 .AL, 2)) ∧
      (∀ make ∈ [Instr.x86MovR16R16, .x86AddR16R16, .x86SubR16R16, .x86CmpR16R16, .x86AndR16R16, .x86OrR16R16,
          .x86XorR16R16],
        ∀ d r, ∃ bs, encode (make d r) = some bs ∧ decode .core86 (bs ++ rest) = some (make .AX .AX, 2)) ∧
      ∀ make ∈ [Instr.x86MovR8R8, .x86AddR8R8, .x86SubR8R8, .x86CmpR8R8, .x86AndR8R8, .x86OrR8R8, .x86XorR8R8],
        ∀ d r, ∃ bs, encode (make d r) = some bs ∧ decode .core86 (bs ++ rest) = some (make .AL .AL, 2)

/-- The round trip of R104 over whole programs, with the reference tables. -/
def Obligations.RoundTripPrograms : Prop :=
  (∀ p : List (Instr × List Byte), (∀ x ∈ p, x.1.arch = .core51 ∧ encode x.1 = some x.2) →
      (disassemble optab51 (p.flatMap fun x => x.2)).map (fun l => decodedInstr .core51 l.decoded) =
        p.map fun x => some x.1) ∧
    ∀ p : List (Instr × List Byte), (∀ x ∈ p, reachable86 x.1 = true ∧ encode x.1 = some x.2) →
      (disassemble optab86 (p.flatMap fun x => x.2)).map (fun l => decodedInstr .core86 l.decoded) =
        p.map fun x => some x.1

/-- Whole-buffer disassembly (R95; its partition property is derived by the spec). -/
def Obligations.DisassemblyCoversBuffer : Prop :=
  ∀ (table : Table) (bytes : List Byte), (∀ e ∈ tableEntries table, entryWellFormed e = true) →
    (disassemble table bytes).flatMap (fun l => l.bytes) = bytes ∧
    (∀ l ∈ disassemble table bytes, l.bytes ≠ []) ∧
    ∀ (pre post : List Line) (l : Line), disassemble table bytes = pre ++ l :: post →
      l.address = (pre.flatMap fun x => x.bytes).length

/-- Writing an instruction and reading it back: no operand is lost on the way through the names and numerals of
both grammars. -/
def Obligations.RecordsResolve : Prop :=
  (∀ i : Instr, wellFormed i = true → resolve i.arch (instrRecord i) = .ok i) ∧
    (∀ (a : Arch) (r : Record) (i : Instr), resolve a r = .ok i → wellFormed i = true ∧ i.arch = a) ∧
    ∀ (a : Arch) (r : Record) (line : Option Nat), resolve a { r with sourceLine := line } = resolve a r

/-- The forward lookup and emission agree with the encoder (R98 to R100). The matching is the spec's decision D33.
-/
def Obligations.AssemblerEncodes : Prop :=
  (∀ (i : Instr) (bs : List Byte), encode i = some bs →
      assembleRecord i.arch (optab i.arch) (instrRecord i) = .ok (.ok bs)) ∧
    ∀ i : Instr, wellFormed i = true → encode i = none →
      ∃ reason, assembleRecord i.arch (optab i.arch) (instrRecord i) = .ok (.error reason)

/-- Assembler addresses (R102). -/
def Obligations.AssemblyAddresses : Prop :=
  ∀ (a : Arch) (table : Table) (text : List Char) (out : Assembly), assemble a table text = .ok out →
    ∀ (pre post : List AsmItem) (x : AsmItem), out.items = pre ++ x :: post →
      x.address = (pre.map fun y => y.bytes.length).sum

/-- The literal-radix hazard (R271) and the marked radixes (R84). That the marker `#` has no effect is the spec's
decision D10; that MOV AX, 10 is the instruction of the row MOV AX, #imm16 the model's (assumption log 11). -/
def Obligations.RadixAsymmetry : Prop :=
  (∀ ds : List (Fin 10), ds ≠ [] →
      lit .core86 (digitString ds) = .ok (.value (spelled 10 ds)) ∧
      lit .core86 ('#' :: digitString ds) = .ok (.value (spelled 10 ds)) ∧
      lit .core51 (digitString ds) = .ok (.value (spelled 16 ds)) ∧
      lit .core51 ('#' :: digitString ds) = .ok (.value (spelled 16 ds))) ∧
    resolve .core86 { mnemonic := tok "MOV", operands := [tok "AX", tok "10"] } =
      .ok (.x86MovR16Imm16 .AX 10) ∧
    resolve .core51 { mnemonic := tok "MOV", operands := [tok "A", tok "#10"] } = .ok (.i51MovAImm 16) ∧
    resolve .core51 { mnemonic := tok "SJMP", operands := [tok "10"] } = .ok (.i51Sjmp 16) ∧
    (∀ (a : Arch) (ds : List (Fin 16)), ds ≠ [] →
      (∀ x ∈ ['x', 'X'], lit a ('0' :: x :: digitString ds) = .ok (.value (spelled 16 ds)) ∧
        lit a ('#' :: '0' :: x :: digitString ds) = .ok (.value (spelled 16 ds))) ∧
      lit a (digitString ds ++ ['H']) = .ok (.value (spelled 16 ds)) ∧
      (¬OperandName a (digitString ds ++ ['H']) →
        lit a ('#' :: (digitString ds ++ ['H'])) = .ok (.value (spelled 16 ds)))) ∧
    ∀ (a : Arch) (ds : List (Fin 2)), ds ≠ [] →
      lit a (digitString ds ++ ['B']) = .ok (.value (spelled 2 ds)) ∧
      lit a ('#' :: (digitString ds ++ ['B'])) = .ok (.value (spelled 2 ds))

/-- What is refused: the spec's decisions D9, D21, D24 and D25 (assumption log 21); which letters are lower case,
which names count and in which order a line is checked, assumption log 10. -/
def Obligations.RefusedRecords : Prop :=
  (∀ (r : Record) (s : State), r.mnemonic ∉ ["MOV", "ADD", "SUB", "CMP", "INC", "DEC", "AND", "OR", "XOR",
      "JMP", "JE", "JZ", "JNE", "JNZ", "HLT", "DIV"].map tok →
      executeRecord .core86 r s = .refused (.unlistedMnemonic .core86 r.mnemonic)) ∧
    (∀ (r : Record) (s : State), r.mnemonic ∉ ["MOV", "MOVX", "INC", "DEC", "MUL", "DIV", "RLC", "RRC", "CLR",
      "SETB", "CPL", "SJMP", "JZ", "JNZ", "JC", "JNC"].map tok →
      executeRecord .core51 r s = .refused (.unlistedMnemonic .core51 r.mnemonic)) ∧
    (∀ m ∈ ["JMP", "JE", "JZ", "JNE", "JNZ"].map tok, ∀ t ∈ registerNames86, ∀ s : State,
      executeRecord .core86 { mnemonic := m, operands := [t] } s = .refused (.inadmissibleForm .core86 m)) ∧
    (∀ m ∈ ["SJMP", "JZ", "JNZ", "JC", "JNC"].map tok, ∀ t ∈ operandNames51, ∀ s : State,
      executeRecord .core51 { mnemonic := m, operands := [t] } s = .refused (.inadmissibleForm .core51 m)) ∧
    (∀ (t src : Token) (n : Nat) (o : Opd86) (s : State), cls86 t = .ok (.lit n) → cls86 src = .ok o →
      (∀ m ∈ ["MOV", "ADD", "SUB", "AND", "OR", "XOR"].map tok,
        executeRecord .core86 { mnemonic := m, operands := [t, src] } s =
          .refused (.inadmissibleForm .core86 m)) ∧
      ∀ m ∈ ["INC", "DEC"].map tok,
        executeRecord .core86 { mnemonic := m, operands := [t] } s = .refused (.inadmissibleForm .core86 m)) ∧
    (∀ (t src : Token) (n : Nat) (o : Cls51) (s : State), cls51 t = .ok (.imm n) ∨ cls51 t = .ok (.bare n) →
      cls51 src = .ok o →
      (∀ m ∈ ["MOV", "MOVX"].map tok,
        executeRecord .core51 { mnemonic := m, operands := [t, src] } s =
          .refused (.inadmissibleForm .core51 m)) ∧
      ∀ m ∈ ["INC", "DEC"].map tok,
        executeRecord .core51 { mnemonic := m, operands := [t] } s = .refused (.inadmissibleForm .core51 m)) ∧
    (∀ t ∈ unreachableNames86, cls86 t = .error (.refusedName t)) ∧
    (∀ t : Token, t ∈ unreachableNames51 ∨ t.head? = some '@' ∧ t ∉ operandNames51 →
      cls51 t = .error (.refusedName t)) ∧
    (∀ (pre post : List Char) (c : Char), c.isLower = true → ¬(c = 'x' ∧ pre ∈ [['0'], ['#', '0']]) →
      (∃ e, cls86 (pre ++ c :: post) = .error e) ∧ (∃ e, cls51 (pre ++ c :: post) = .error e) ∧
      ∀ a, refusedToken a (pre ++ c :: post) = some (.lowerCaseToken (pre ++ c :: post))) ∧
    (∀ (r : Record) (t : Token) (e : Refusal) (s : State), t ∈ r.operands →
      (cls86 t = .error e → r.mnemonic ≠ tok "DIV" → ∃ e', executeRecord .core86 r s = .refused e') ∧
      (cls51 t = .error e → ∃ e', executeRecord .core51 r s = .refused e')) ∧
    ∀ (a : Arch) (table : Table) (r : Record) (t : Token) (e : Refusal), t ∈ r.operands →
      refusedToken a t = some e → ∃ e', assembleRecord a table r = .error e'

/-- The NaN fallback (R244) and the numerals R85 refuses: the spec's decision D11; the marker is its decision D10.
Which tokens count as names (R131, R181) is assumption log 10. That a fallback, an execute-only spelling, is the
instruction of the row with the number 0 (MOV AX, MOV A, JMP, SJMP) is the model's (assumption log 11). That 0AB is
refused on core51, where the prose after R181 writes 171 so, is the model's choice (assumption log 27). -/
def Obligations.FallbackAndRefusedNumerals : Prop :=
  (∀ (a : Arch) (t : Token), PlainBody t →
      (NoLeadingDigit a t → lit a t = .ok .zero) ∧
      (∀ c ∈ t.head?, c ∈ validDigits (defaultRadix a) → (∃ d ∈ t, d ∉ validDigits (defaultRadix a)) →
        lit a t = .error (.refusedNumeral t))) ∧
    (∀ (t : Token) (r : R16), PlainBody t → NoLeadingDigit .core86 t → ¬OperandName .core86 t →
      resolve .core86 { mnemonic := tok "MOV", operands := [nameR16 r, t] } = .ok (.x86MovR16Imm16 r 0) ∧
      resolve .core86 { mnemonic := tok "MOV", operands := [nameR16 r, '#' :: t] } = .ok (.x86MovR16Imm16 r 0) ∧
      resolve .core86 { mnemonic := tok "JMP", operands := [t] } = .ok (.x86Jmp 0)) ∧
    (∀ t : Token, PlainBody t → NoLeadingDigit .core51 t → ¬OperandName .core51 t →
      resolve .core51 { mnemonic := tok "MOV", operands := [tok "A", '#' :: t] } = .ok (.i51MovAImm 0) ∧
      resolve .core51 { mnemonic := tok "SJMP", operands := [t] } = .ok (.i51Sjmp 0)) ∧
    (∀ (a : Arch) (t : Token), OperandName a t → ∃ e, lit a ('#' :: t) = .error e) ∧
    (∀ (a : Arch) (rest : List Char), ∀ sign ∈ ['-', '+'],
      (∃ e, lit a (sign :: rest) = .error e) ∧ ∃ e, lit a ('#' :: sign :: rest) = .error e) ∧
    (∀ (a : Arch) (body : List Char), (body = [] ∨ ∃ c ∈ body, c ∉ validDigits 16) →
      (∃ e, lit a ('0' :: 'x' :: body) = .error e) ∧ (∃ e, lit a ('0' :: 'X' :: body) = .error e) ∧
      (body.head? ≠ some '#' → ∃ e, lit a (body ++ ['H']) = .error e)) ∧
    (∀ (a : Arch) (body : List Char), (body = [] ∨ ∃ c ∈ body, c ∉ validDigits 2) → body.head? ≠ some '#' →
      body.take 2 ∉ [['0', 'x'], ['0', 'X']] → ∃ e, lit a (body ++ ['B']) = .error e) ∧
    lit .core51 (tok "0AB") = .error (.refusedNumeral (tok "0AB"))
end

