-- ==== Sys2Proof/Laws/Assembler.lean ====
section
/-! SUPPORT. Which tokens the assembler refuses (spec 30_encoding.md R83, R85, R98). -/

set_option autoImplicit false

namespace Sys2Proof.Machine

/-- A token is not refused exactly when it has no lower-case letter and is a name or a numeral `lit` answers. -/
theorem refusedToken_none (a : Arch) (t : Token) :
    refusedToken a t = none ↔ hasLowerCase t = false ∧ (isName a t = true ∨ ∃ v, lit a t = .ok v) := by
  unfold refusedToken
  cases hasLowerCase t <;> cases isName a t <;> cases lit a t <;> simp

/-- A token with a lower-case letter is refused as such, a name or an `@` token too (R83, R98). -/
theorem refusedToken_lowerCase (a : Arch) (t : Token) (h : hasLowerCase t = true) :
    refusedToken a t = some (.lowerCaseToken t) := by
  simp [refusedToken, h]

/-- A record is refused exactly when one of its operands is. -/
theorem firstRefused_none (a : Arch) (ts : List Token) :
    firstRefused a ts = none ↔ ∀ t ∈ ts, refusedToken a t = none := by
  induction ts with
  | nil => simp [firstRefused]
  | cons t rest ih =>
    unfold firstRefused
    cases h : refusedToken a t <;> simp [h, ih]

end Sys2Proof.Machine
end

