-- ==== Sys2Proof/Laws/State.lean ====
section
/-! SUPPORT. One lemma per field per update, so that no proof unfolds a record update. -/

set_option autoImplicit false

namespace Sys2Proof.Machine


/-! ### The state -/

@[simp] theorem State.withCore86_core86 (s : State) (c : Core86) : (s.withCore86 c).core86 = c := rfl
@[simp] theorem State.withCore86_core51 (s : State) (c : Core86) : (s.withCore86 c).core51 = s.core51 := rfl
@[simp] theorem State.withCore86_params (s : State) (c : Core86) : (s.withCore86 c).params = s.params := rfl
@[simp] theorem State.withCore86_resetRecord86 (s : State) (c : Core86) : (s.withCore86 c).resetRecord86 = s.resetRecord86 := rfl
@[simp] theorem State.withCore86_resetRecord51 (s : State) (c : Core86) : (s.withCore86 c).resetRecord51 = s.resetRecord51 := rfl
@[simp] theorem State.withCore86_session (s : State) (c : Core86) : (s.withCore86 c).session = s.session := rfl
@[simp] theorem State.withCore51_core86 (s : State) (c : Core51) : (s.withCore51 c).core86 = s.core86 := rfl
@[simp] theorem State.withCore51_core51 (s : State) (c : Core51) : (s.withCore51 c).core51 = c := rfl
@[simp] theorem State.withCore51_params (s : State) (c : Core51) : (s.withCore51 c).params = s.params := rfl
@[simp] theorem State.withCore51_resetRecord86 (s : State) (c : Core51) : (s.withCore51 c).resetRecord86 = s.resetRecord86 := rfl
@[simp] theorem State.withCore51_resetRecord51 (s : State) (c : Core51) : (s.withCore51 c).resetRecord51 = s.resetRecord51 := rfl
@[simp] theorem State.withCore51_session (s : State) (c : Core51) : (s.withCore51 c).session = s.session := rfl
@[simp] theorem State.report_core86 (s : State) (st : Status) : (s.report st).core86 = s.core86 := rfl
@[simp] theorem State.report_core51 (s : State) (st : Status) : (s.report st).core51 = s.core51 := rfl
@[simp] theorem State.report_params (s : State) (st : Status) : (s.report st).params = s.params := rfl
@[simp] theorem State.report_resetRecord86 (s : State) (st : Status) : (s.report st).resetRecord86 = s.resetRecord86 := rfl
@[simp] theorem State.report_resetRecord51 (s : State) (st : Status) : (s.report st).resetRecord51 = s.resetRecord51 := rfl
@[simp] theorem State.report_session_selected (s : State) (st : Status) : (s.report st).session.selected = s.session.selected := rfl
@[simp] theorem State.report_session_listing (s : State) (st : Status) : (s.report st).session.listing = s.session.listing := rfl
@[simp] theorem State.report_session_cursor (s : State) (st : Status) : (s.report st).session.cursor = s.session.cursor := rfl
@[simp] theorem State.report_session_log (s : State) (st : Status) : (s.report st).session.log = s.session.log ++ [st] := rfl
@[simp] theorem advanceCursor_core86 (s : State) : (advanceCursor s).core86 = s.core86 := rfl
@[simp] theorem advanceCursor_core51 (s : State) : (advanceCursor s).core51 = s.core51 := rfl
@[simp] theorem advanceCursor_params (s : State) : (advanceCursor s).params = s.params := rfl
@[simp] theorem advanceCursor_resetRecord86 (s : State) : (advanceCursor s).resetRecord86 = s.resetRecord86 := rfl
@[simp] theorem advanceCursor_resetRecord51 (s : State) : (advanceCursor s).resetRecord51 = s.resetRecord51 := rfl
@[simp] theorem advanceCursor_session_selected (s : State) : (advanceCursor s).session.selected = s.session.selected := rfl
@[simp] theorem advanceCursor_session_listing (s : State) : (advanceCursor s).session.listing = s.session.listing := rfl
@[simp] theorem advanceCursor_session_cursor (s : State) : (advanceCursor s).session.cursor = s.session.cursor + 1 := rfl
@[simp] theorem advanceCursor_session_log (s : State) : (advanceCursor s).session.log = s.session.log := rfl
@[simp] theorem rewindCursor_core86 (s : State) : (rewindCursor s).core86 = s.core86 := rfl
@[simp] theorem rewindCursor_core51 (s : State) : (rewindCursor s).core51 = s.core51 := rfl
@[simp] theorem rewindCursor_params (s : State) : (rewindCursor s).params = s.params := rfl
@[simp] theorem rewindCursor_resetRecord86 (s : State) : (rewindCursor s).resetRecord86 = s.resetRecord86 := rfl
@[simp] theorem rewindCursor_resetRecord51 (s : State) : (rewindCursor s).resetRecord51 = s.resetRecord51 := rfl
@[simp] theorem rewindCursor_session_selected (s : State) : (rewindCursor s).session.selected = s.session.selected := rfl
@[simp] theorem rewindCursor_session_listing (s : State) : (rewindCursor s).session.listing = s.session.listing := rfl
@[simp] theorem rewindCursor_session_cursor (s : State) : (rewindCursor s).session.cursor = 0 := rfl
@[simp] theorem rewindCursor_session_log (s : State) : (rewindCursor s).session.log = s.session.log := rfl
@[simp] theorem resetCore_params (a : Arch) (s : State) : (resetCore a s).params = s.params := by cases a <;> rfl
@[simp] theorem resetCore_resetRecord86 (a : Arch) (s : State) : (resetCore a s).resetRecord86 = s.resetRecord86 := by cases a <;> rfl
@[simp] theorem resetCore_resetRecord51 (a : Arch) (s : State) : (resetCore a s).resetRecord51 = s.resetRecord51 := by cases a <;> rfl
@[simp] theorem resetCore_session (a : Arch) (s : State) : (resetCore a s).session = s.session := by cases a <;> rfl
@[simp] theorem resetCore_core86_core51 (s : State) : (resetCore .core86 s).core51 = s.core51 := rfl
@[simp] theorem resetCore_core51_core86 (s : State) : (resetCore .core51 s).core86 = s.core86 := rfl
@[simp] theorem hostReset_core86 (a : Arch) (s : State) : (hostReset a s).core86 = (resetCore a s).core86 := rfl
@[simp] theorem hostReset_core51 (a : Arch) (s : State) : (hostReset a s).core51 = (resetCore a s).core51 := rfl
@[simp] theorem hostReset_params (a : Arch) (s : State) : (hostReset a s).params = s.params := by cases a <;> rfl
@[simp] theorem hostReset_resetRecord86 (a : Arch) (s : State) : (hostReset a s).resetRecord86 = s.resetRecord86 := by cases a <;> rfl
@[simp] theorem hostReset_resetRecord51 (a : Arch) (s : State) : (hostReset a s).resetRecord51 = s.resetRecord51 := by cases a <;> rfl
@[simp] theorem hostReset_session_selected (a : Arch) (s : State) : (hostReset a s).session.selected = s.session.selected := by cases a <;> rfl
@[simp] theorem hostReset_session_listing (a : Arch) (s : State) : (hostReset a s).session.listing = s.session.listing := by cases a <;> rfl
@[simp] theorem hostReset_session_log (a : Arch) (s : State) : (hostReset a s).session.log = s.session.log := by cases a <;> rfl
@[simp] theorem hostReset_session_cursor (a : Arch) (s : State) : (hostReset a s).session.cursor = 0 := rfl
@[simp] theorem selectCore_core86 (a : Arch) (s : State) : (selectCore a s).core86 = s.core86 := rfl
@[simp] theorem selectCore_core51 (a : Arch) (s : State) : (selectCore a s).core51 = s.core51 := rfl
@[simp] theorem selectCore_params (a : Arch) (s : State) : (selectCore a s).params = s.params := rfl
@[simp] theorem selectCore_resetRecord86 (a : Arch) (s : State) : (selectCore a s).resetRecord86 = s.resetRecord86 := rfl
@[simp] theorem selectCore_resetRecord51 (a : Arch) (s : State) : (selectCore a s).resetRecord51 = s.resetRecord51 := rfl
@[simp] theorem selectCore_session_selected (a : Arch) (s : State) : (selectCore a s).session.selected = a := rfl
@[simp] theorem selectCore_session_listing (a : Arch) (s : State) : (selectCore a s).session.listing = s.session.listing := rfl
@[simp] theorem selectCore_session_cursor (a : Arch) (s : State) : (selectCore a s).session.cursor = s.session.cursor := rfl
@[simp] theorem selectCore_session_log (a : Arch) (s : State) : (selectCore a s).session.log = s.session.log := rfl
@[simp] theorem setListing_core86 (l : List Record) (s : State) : (setListing l s).core86 = s.core86 := rfl
@[simp] theorem setListing_core51 (l : List Record) (s : State) : (setListing l s).core51 = s.core51 := rfl
@[simp] theorem setListing_params (l : List Record) (s : State) : (setListing l s).params = s.params := rfl
@[simp] theorem setListing_resetRecord86 (l : List Record) (s : State) : (setListing l s).resetRecord86 = s.resetRecord86 := rfl
@[simp] theorem setListing_resetRecord51 (l : List Record) (s : State) : (setListing l s).resetRecord51 = s.resetRecord51 := rfl
@[simp] theorem setListing_session_selected (l : List Record) (s : State) : (setListing l s).session.selected = s.session.selected := rfl
@[simp] theorem setListing_session_listing (l : List Record) (s : State) : (setListing l s).session.listing = l := rfl
@[simp] theorem setListing_session_cursor (l : List Record) (s : State) : (setListing l s).session.cursor = 0 := rfl
@[simp] theorem setListing_session_log (l : List Record) (s : State) : (setListing l s).session.log = s.session.log := rfl

/-! ### core86 -/

@[simp] theorem Core86.withFlags_AX (c : Core86) (f : Flags86) : (c.withFlags f).AX = c.AX := rfl
@[simp] theorem Core86.withFlags_BX (c : Core86) (f : Flags86) : (c.withFlags f).BX = c.BX := rfl
@[simp] theorem Core86.withFlags_CX (c : Core86) (f : Flags86) : (c.withFlags f).CX = c.CX := rfl
@[simp] theorem Core86.withFlags_DX (c : Core86) (f : Flags86) : (c.withFlags f).DX = c.DX := rfl
@[simp] theorem Core86.withFlags_SP (c : Core86) (f : Flags86) : (c.withFlags f).SP = c.SP := rfl
@[simp] theorem Core86.withFlags_BP (c : Core86) (f : Flags86) : (c.withFlags f).BP = c.BP := rfl
@[simp] theorem Core86.withFlags_SI (c : Core86) (f : Flags86) : (c.withFlags f).SI = c.SI := rfl
@[simp] theorem Core86.withFlags_DI (c : Core86) (f : Flags86) : (c.withFlags f).DI = c.DI := rfl
@[simp] theorem Core86.withFlags_IP (c : Core86) (f : Flags86) : (c.withFlags f).IP = c.IP := rfl
@[simp] theorem Core86.withFlags_CS (c : Core86) (f : Flags86) : (c.withFlags f).CS = c.CS := rfl
@[simp] theorem Core86.withFlags_DS (c : Core86) (f : Flags86) : (c.withFlags f).DS = c.DS := rfl
@[simp] theorem Core86.withFlags_ES (c : Core86) (f : Flags86) : (c.withFlags f).ES = c.ES := rfl
@[simp] theorem Core86.withFlags_SS (c : Core86) (f : Flags86) : (c.withFlags f).SS = c.SS := rfl
@[simp] theorem Core86.withFlags_flags (c : Core86) (f : Flags86) : (c.withFlags f).flags = f := rfl
@[simp] theorem Core86.withFlags_halted (c : Core86) (f : Flags86) : (c.withFlags f).halted = c.halted := rfl
@[simp] theorem Core86.withFlags_mem (c : Core86) (f : Flags86) : (c.withFlags f).mem = c.mem := rfl
@[simp] theorem Core86.setIP_AX (c : Core86) (v : Nat) : (c.setIP v).AX = c.AX := rfl
@[simp] theorem Core86.setIP_BX (c : Core86) (v : Nat) : (c.setIP v).BX = c.BX := rfl
@[simp] theorem Core86.setIP_CX (c : Core86) (v : Nat) : (c.setIP v).CX = c.CX := rfl
@[simp] theorem Core86.setIP_DX (c : Core86) (v : Nat) : (c.setIP v).DX = c.DX := rfl
@[simp] theorem Core86.setIP_SP (c : Core86) (v : Nat) : (c.setIP v).SP = c.SP := rfl
@[simp] theorem Core86.setIP_BP (c : Core86) (v : Nat) : (c.setIP v).BP = c.BP := rfl
@[simp] theorem Core86.setIP_SI (c : Core86) (v : Nat) : (c.setIP v).SI = c.SI := rfl
@[simp] theorem Core86.setIP_DI (c : Core86) (v : Nat) : (c.setIP v).DI = c.DI := rfl
@[simp] theorem Core86.setIP_IP (c : Core86) (v : Nat) : (c.setIP v).IP = BitVec.ofNat 16 v := rfl
@[simp] theorem Core86.setIP_CS (c : Core86) (v : Nat) : (c.setIP v).CS = c.CS := rfl
@[simp] theorem Core86.setIP_DS (c : Core86) (v : Nat) : (c.setIP v).DS = c.DS := rfl
@[simp] theorem Core86.setIP_ES (c : Core86) (v : Nat) : (c.setIP v).ES = c.ES := rfl
@[simp] theorem Core86.setIP_SS (c : Core86) (v : Nat) : (c.setIP v).SS = c.SS := rfl
@[simp] theorem Core86.setIP_flags (c : Core86) (v : Nat) : (c.setIP v).flags = c.flags := rfl
@[simp] theorem Core86.setIP_halted (c : Core86) (v : Nat) : (c.setIP v).halted = c.halted := rfl
@[simp] theorem Core86.setIP_mem (c : Core86) (v : Nat) : (c.setIP v).mem = c.mem := rfl
@[simp] theorem Core86.advanceIP_AX (c : Core86) (k : Fin 2) : (c.advanceIP k).AX = c.AX := rfl
@[simp] theorem Core86.advanceIP_BX (c : Core86) (k : Fin 2) : (c.advanceIP k).BX = c.BX := rfl
@[simp] theorem Core86.advanceIP_CX (c : Core86) (k : Fin 2) : (c.advanceIP k).CX = c.CX := rfl
@[simp] theorem Core86.advanceIP_DX (c : Core86) (k : Fin 2) : (c.advanceIP k).DX = c.DX := rfl
@[simp] theorem Core86.advanceIP_SP (c : Core86) (k : Fin 2) : (c.advanceIP k).SP = c.SP := rfl
@[simp] theorem Core86.advanceIP_BP (c : Core86) (k : Fin 2) : (c.advanceIP k).BP = c.BP := rfl
@[simp] theorem Core86.advanceIP_SI (c : Core86) (k : Fin 2) : (c.advanceIP k).SI = c.SI := rfl
@[simp] theorem Core86.advanceIP_DI (c : Core86) (k : Fin 2) : (c.advanceIP k).DI = c.DI := rfl
@[simp] theorem Core86.advanceIP_IP (c : Core86) (k : Fin 2) : (c.advanceIP k).IP = c.IP + BitVec.ofNat 16 k.val := rfl
@[simp] theorem Core86.advanceIP_CS (c : Core86) (k : Fin 2) : (c.advanceIP k).CS = c.CS := rfl
@[simp] theorem Core86.advanceIP_DS (c : Core86) (k : Fin 2) : (c.advanceIP k).DS = c.DS := rfl
@[simp] theorem Core86.advanceIP_ES (c : Core86) (k : Fin 2) : (c.advanceIP k).ES = c.ES := rfl
@[simp] theorem Core86.advanceIP_SS (c : Core86) (k : Fin 2) : (c.advanceIP k).SS = c.SS := rfl
@[simp] theorem Core86.advanceIP_flags (c : Core86) (k : Fin 2) : (c.advanceIP k).flags = c.flags := rfl
@[simp] theorem Core86.advanceIP_halted (c : Core86) (k : Fin 2) : (c.advanceIP k).halted = c.halted := rfl
@[simp] theorem Core86.advanceIP_mem (c : Core86) (k : Fin 2) : (c.advanceIP k).mem = c.mem := rfl
@[simp] theorem Core86.setHalted_AX (c : Core86) : (c.setHalted).AX = c.AX := rfl
@[simp] theorem Core86.setHalted_BX (c : Core86) : (c.setHalted).BX = c.BX := rfl
@[simp] theorem Core86.setHalted_CX (c : Core86) : (c.setHalted).CX = c.CX := rfl
@[simp] theorem Core86.setHalted_DX (c : Core86) : (c.setHalted).DX = c.DX := rfl
@[simp] theorem Core86.setHalted_SP (c : Core86) : (c.setHalted).SP = c.SP := rfl
@[simp] theorem Core86.setHalted_BP (c : Core86) : (c.setHalted).BP = c.BP := rfl
@[simp] theorem Core86.setHalted_SI (c : Core86) : (c.setHalted).SI = c.SI := rfl
@[simp] theorem Core86.setHalted_DI (c : Core86) : (c.setHalted).DI = c.DI := rfl
@[simp] theorem Core86.setHalted_IP (c : Core86) : (c.setHalted).IP = c.IP := rfl
@[simp] theorem Core86.setHalted_CS (c : Core86) : (c.setHalted).CS = c.CS := rfl
@[simp] theorem Core86.setHalted_DS (c : Core86) : (c.setHalted).DS = c.DS := rfl
@[simp] theorem Core86.setHalted_ES (c : Core86) : (c.setHalted).ES = c.ES := rfl
@[simp] theorem Core86.setHalted_SS (c : Core86) : (c.setHalted).SS = c.SS := rfl
@[simp] theorem Core86.setHalted_flags (c : Core86) : (c.setHalted).flags = c.flags := rfl
@[simp] theorem Core86.setHalted_halted (c : Core86) : (c.setHalted).halted = true := rfl
@[simp] theorem Core86.setHalted_mem (c : Core86) : (c.setHalted).mem = c.mem := rfl
@[simp] theorem Core86.memWrite_AX (c : Core86) (a : Nat) (v : Byte) : (c.memWrite a v).AX = c.AX := rfl
@[simp] theorem Core86.memWrite_BX (c : Core86) (a : Nat) (v : Byte) : (c.memWrite a v).BX = c.BX := rfl
@[simp] theorem Core86.memWrite_CX (c : Core86) (a : Nat) (v : Byte) : (c.memWrite a v).CX = c.CX := rfl
@[simp] theorem Core86.memWrite_DX (c : Core86) (a : Nat) (v : Byte) : (c.memWrite a v).DX = c.DX := rfl
@[simp] theorem Core86.memWrite_SP (c : Core86) (a : Nat) (v : Byte) : (c.memWrite a v).SP = c.SP := rfl
@[simp] theorem Core86.memWrite_BP (c : Core86) (a : Nat) (v : Byte) : (c.memWrite a v).BP = c.BP := rfl
@[simp] theorem Core86.memWrite_SI (c : Core86) (a : Nat) (v : Byte) : (c.memWrite a v).SI = c.SI := rfl
@[simp] theorem Core86.memWrite_DI (c : Core86) (a : Nat) (v : Byte) : (c.memWrite a v).DI = c.DI := rfl
@[simp] theorem Core86.memWrite_IP (c : Core86) (a : Nat) (v : Byte) : (c.memWrite a v).IP = c.IP := rfl
@[simp] theorem Core86.memWrite_CS (c : Core86) (a : Nat) (v : Byte) : (c.memWrite a v).CS = c.CS := rfl
@[simp] theorem Core86.memWrite_DS (c : Core86) (a : Nat) (v : Byte) : (c.memWrite a v).DS = c.DS := rfl
@[simp] theorem Core86.memWrite_ES (c : Core86) (a : Nat) (v : Byte) : (c.memWrite a v).ES = c.ES := rfl
@[simp] theorem Core86.memWrite_SS (c : Core86) (a : Nat) (v : Byte) : (c.memWrite a v).SS = c.SS := rfl
@[simp] theorem Core86.memWrite_flags (c : Core86) (a : Nat) (v : Byte) : (c.memWrite a v).flags = c.flags := rfl
@[simp] theorem Core86.memWrite_halted (c : Core86) (a : Nat) (v : Byte) : (c.memWrite a v).halted = c.halted := rfl
@[simp] theorem Core86.memWrite_mem (c : Core86) (a : Nat) (v : Byte) : (c.memWrite a v).mem = writeCell c.mem (a % mem86Size) v := rfl
@[simp] theorem Core86.setR16_IP (c : Core86) (r : R16) (v : Word) : (c.setR16 r v).IP = c.IP := by cases r <;> rfl
@[simp] theorem Core86.setR16_CS (c : Core86) (r : R16) (v : Word) : (c.setR16 r v).CS = c.CS := by cases r <;> rfl
@[simp] theorem Core86.setR16_DS (c : Core86) (r : R16) (v : Word) : (c.setR16 r v).DS = c.DS := by cases r <;> rfl
@[simp] theorem Core86.setR16_ES (c : Core86) (r : R16) (v : Word) : (c.setR16 r v).ES = c.ES := by cases r <;> rfl
@[simp] theorem Core86.setR16_SS (c : Core86) (r : R16) (v : Word) : (c.setR16 r v).SS = c.SS := by cases r <;> rfl
@[simp] theorem Core86.setR16_flags (c : Core86) (r : R16) (v : Word) : (c.setR16 r v).flags = c.flags := by cases r <;> rfl
@[simp] theorem Core86.setR16_halted (c : Core86) (r : R16) (v : Word) : (c.setR16 r v).halted = c.halted := by cases r <;> rfl
@[simp] theorem Core86.setR16_mem (c : Core86) (r : R16) (v : Word) : (c.setR16 r v).mem = c.mem := by cases r <;> rfl
@[simp] theorem Core86.setR8_SP (c : Core86) (r : R8) (v : Byte) : (c.setR8 r v).SP = c.SP := by cases r <;> rfl
@[simp] theorem Core86.setR8_BP (c : Core86) (r : R8) (v : Byte) : (c.setR8 r v).BP = c.BP := by cases r <;> rfl
@[simp] theorem Core86.setR8_SI (c : Core86) (r : R8) (v : Byte) : (c.setR8 r v).SI = c.SI := by cases r <;> rfl
@[simp] theorem Core86.setR8_DI (c : Core86) (r : R8) (v : Byte) : (c.setR8 r v).DI = c.DI := by cases r <;> rfl
@[simp] theorem Core86.setR8_IP (c : Core86) (r : R8) (v : Byte) : (c.setR8 r v).IP = c.IP := by cases r <;> rfl
@[simp] theorem Core86.setR8_CS (c : Core86) (r : R8) (v : Byte) : (c.setR8 r v).CS = c.CS := by cases r <;> rfl
@[simp] theorem Core86.setR8_DS (c : Core86) (r : R8) (v : Byte) : (c.setR8 r v).DS = c.DS := by cases r <;> rfl
@[simp] theorem Core86.setR8_ES (c : Core86) (r : R8) (v : Byte) : (c.setR8 r v).ES = c.ES := by cases r <;> rfl
@[simp] theorem Core86.setR8_SS (c : Core86) (r : R8) (v : Byte) : (c.setR8 r v).SS = c.SS := by cases r <;> rfl
@[simp] theorem Core86.setR8_flags (c : Core86) (r : R8) (v : Byte) : (c.setR8 r v).flags = c.flags := by cases r <;> rfl
@[simp] theorem Core86.setR8_halted (c : Core86) (r : R8) (v : Byte) : (c.setR8 r v).halted = c.halted := by cases r <;> rfl
@[simp] theorem Core86.setR8_mem (c : Core86) (r : R8) (v : Byte) : (c.setR8 r v).mem = c.mem := by cases r <;> rfl
@[simp] theorem Core86.withFlags_getR16 (c : Core86) (f : Flags86) (r : R16) : (c.withFlags f).getR16 r = c.getR16 r := by cases r <;> rfl
@[simp] theorem Core86.withFlags_getR8 (c : Core86) (f : Flags86) (r : R8) : (c.withFlags f).getR8 r = c.getR8 r := by cases r <;> rfl
@[simp] theorem Core86.setIP_getR16 (c : Core86) (v : Nat) (r : R16) : (c.setIP v).getR16 r = c.getR16 r := by cases r <;> rfl
@[simp] theorem Core86.setIP_getR8 (c : Core86) (v : Nat) (r : R8) : (c.setIP v).getR8 r = c.getR8 r := by cases r <;> rfl
@[simp] theorem Core86.advanceIP_getR16 (c : Core86) (k : Fin 2) (r : R16) : (c.advanceIP k).getR16 r = c.getR16 r := by cases r <;> rfl
@[simp] theorem Core86.advanceIP_getR8 (c : Core86) (k : Fin 2) (r : R8) : (c.advanceIP k).getR8 r = c.getR8 r := by cases r <;> rfl
@[simp] theorem Core86.setHalted_getR16 (c : Core86) (r : R16) : (c.setHalted).getR16 r = c.getR16 r := by cases r <;> rfl
@[simp] theorem Core86.setHalted_getR8 (c : Core86) (r : R8) : (c.setHalted).getR8 r = c.getR8 r := by cases r <;> rfl
@[simp] theorem Core86.memWrite_getR16 (c : Core86) (a : Nat) (v : Byte) (r : R16) : (c.memWrite a v).getR16 r = c.getR16 r := by cases r <;> rfl
@[simp] theorem Core86.memWrite_getR8 (c : Core86) (a : Nat) (v : Byte) (r : R8) : (c.memWrite a v).getR8 r = c.getR8 r := by cases r <;> rfl

/-! ### core51 -/

@[simp] theorem Core51.setA_A (c : Core51) (p : Config.Params) (v : Byte) : (c.setA p v).A = v := rfl
@[simp] theorem Core51.setA_B (c : Core51) (p : Config.Params) (v : Byte) : (c.setA p v).B = c.B := rfl
@[simp] theorem Core51.setA_R0 (c : Core51) (p : Config.Params) (v : Byte) : (c.setA p v).R0 = c.R0 := rfl
@[simp] theorem Core51.setA_R1 (c : Core51) (p : Config.Params) (v : Byte) : (c.setA p v).R1 = c.R1 := rfl
@[simp] theorem Core51.setA_R2 (c : Core51) (p : Config.Params) (v : Byte) : (c.setA p v).R2 = c.R2 := rfl
@[simp] theorem Core51.setA_R3 (c : Core51) (p : Config.Params) (v : Byte) : (c.setA p v).R3 = c.R3 := rfl
@[simp] theorem Core51.setA_R4 (c : Core51) (p : Config.Params) (v : Byte) : (c.setA p v).R4 = c.R4 := rfl
@[simp] theorem Core51.setA_R5 (c : Core51) (p : Config.Params) (v : Byte) : (c.setA p v).R5 = c.R5 := rfl
@[simp] theorem Core51.setA_R6 (c : Core51) (p : Config.Params) (v : Byte) : (c.setA p v).R6 = c.R6 := rfl
@[simp] theorem Core51.setA_R7 (c : Core51) (p : Config.Params) (v : Byte) : (c.setA p v).R7 = c.R7 := rfl
@[simp] theorem Core51.setA_DPTR (c : Core51) (p : Config.Params) (v : Byte) : (c.setA p v).DPTR = c.DPTR := rfl
@[simp] theorem Core51.setA_PC (c : Core51) (p : Config.Params) (v : Byte) : (c.setA p v).PC = c.PC := rfl
@[simp] theorem Core51.setA_SP (c : Core51) (p : Config.Params) (v : Byte) : (c.setA p v).SP = c.SP := rfl
@[simp] theorem Core51.setA_PSW (c : Core51) (p : Config.Params) (v : Byte) : (c.setA p v).PSW = c.PSW := rfl
@[simp] theorem Core51.setA_flags_C (c : Core51) (p : Config.Params) (v : Byte) : (c.setA p v).flags.C = c.flags.C := rfl
@[simp] theorem Core51.setA_flags_AC (c : Core51) (p : Config.Params) (v : Byte) : (c.setA p v).flags.AC = c.flags.AC := rfl
@[simp] theorem Core51.setA_flags_OV (c : Core51) (p : Config.Params) (v : Byte) : (c.setA p v).flags.OV = c.flags.OV := rfl
@[simp] theorem Core51.setA_flags_P (c : Core51) (p : Config.Params) (v : Byte) : (c.setA p v).flags.P = par51 p.parityOdd v := rfl
@[simp] theorem Core51.setA_P0 (c : Core51) (p : Config.Params) (v : Byte) : (c.setA p v).P0 = c.P0 := rfl
@[simp] theorem Core51.setA_P1 (c : Core51) (p : Config.Params) (v : Byte) : (c.setA p v).P1 = c.P1 := rfl
@[simp] theorem Core51.setA_P2 (c : Core51) (p : Config.Params) (v : Byte) : (c.setA p v).P2 = c.P2 := rfl
@[simp] theorem Core51.setA_P3 (c : Core51) (p : Config.Params) (v : Byte) : (c.setA p v).P3 = c.P3 := rfl
@[simp] theorem Core51.setA_mem (c : Core51) (p : Config.Params) (v : Byte) : (c.setA p v).mem = c.mem := rfl
@[simp] theorem Core51.setA_getR (c : Core51) (p : Config.Params) (v : Byte) (r : RN) : (c.setA p v).getR r = c.getR r := by cases r <;> rfl
@[simp] theorem Core51.setB_A (c : Core51) (v : Byte) : (c.setB v).A = c.A := rfl
@[simp] theorem Core51.setB_B (c : Core51) (v : Byte) : (c.setB v).B = v := rfl
@[simp] theorem Core51.setB_R0 (c : Core51) (v : Byte) : (c.setB v).R0 = c.R0 := rfl
@[simp] theorem Core51.setB_R1 (c : Core51) (v : Byte) : (c.setB v).R1 = c.R1 := rfl
@[simp] theorem Core51.setB_R2 (c : Core51) (v : Byte) : (c.setB v).R2 = c.R2 := rfl
@[simp] theorem Core51.setB_R3 (c : Core51) (v : Byte) : (c.setB v).R3 = c.R3 := rfl
@[simp] theorem Core51.setB_R4 (c : Core51) (v : Byte) : (c.setB v).R4 = c.R4 := rfl
@[simp] theorem Core51.setB_R5 (c : Core51) (v : Byte) : (c.setB v).R5 = c.R5 := rfl
@[simp] theorem Core51.setB_R6 (c : Core51) (v : Byte) : (c.setB v).R6 = c.R6 := rfl
@[simp] theorem Core51.setB_R7 (c : Core51) (v : Byte) : (c.setB v).R7 = c.R7 := rfl
@[simp] theorem Core51.setB_DPTR (c : Core51) (v : Byte) : (c.setB v).DPTR = c.DPTR := rfl
@[simp] theorem Core51.setB_PC (c : Core51) (v : Byte) : (c.setB v).PC = c.PC := rfl
@[simp] theorem Core51.setB_SP (c : Core51) (v : Byte) : (c.setB v).SP = c.SP := rfl
@[simp] theorem Core51.setB_PSW (c : Core51) (v : Byte) : (c.setB v).PSW = c.PSW := rfl
@[simp] theorem Core51.setB_flags (c : Core51) (v : Byte) : (c.setB v).flags = c.flags := rfl
@[simp] theorem Core51.setB_P0 (c : Core51) (v : Byte) : (c.setB v).P0 = c.P0 := rfl
@[simp] theorem Core51.setB_P1 (c : Core51) (v : Byte) : (c.setB v).P1 = c.P1 := rfl
@[simp] theorem Core51.setB_P2 (c : Core51) (v : Byte) : (c.setB v).P2 = c.P2 := rfl
@[simp] theorem Core51.setB_P3 (c : Core51) (v : Byte) : (c.setB v).P3 = c.P3 := rfl
@[simp] theorem Core51.setB_mem (c : Core51) (v : Byte) : (c.setB v).mem = c.mem := rfl
@[simp] theorem Core51.setB_getR (c : Core51) (v : Byte) (r : RN) : (c.setB v).getR r = c.getR r := by cases r <;> rfl
@[simp] theorem Core51.setDPTR_A (c : Core51) (v : Word) : (c.setDPTR v).A = c.A := rfl
@[simp] theorem Core51.setDPTR_B (c : Core51) (v : Word) : (c.setDPTR v).B = c.B := rfl
@[simp] theorem Core51.setDPTR_R0 (c : Core51) (v : Word) : (c.setDPTR v).R0 = c.R0 := rfl
@[simp] theorem Core51.setDPTR_R1 (c : Core51) (v : Word) : (c.setDPTR v).R1 = c.R1 := rfl
@[simp] theorem Core51.setDPTR_R2 (c : Core51) (v : Word) : (c.setDPTR v).R2 = c.R2 := rfl
@[simp] theorem Core51.setDPTR_R3 (c : Core51) (v : Word) : (c.setDPTR v).R3 = c.R3 := rfl
@[simp] theorem Core51.setDPTR_R4 (c : Core51) (v : Word) : (c.setDPTR v).R4 = c.R4 := rfl
@[simp] theorem Core51.setDPTR_R5 (c : Core51) (v : Word) : (c.setDPTR v).R5 = c.R5 := rfl
@[simp] theorem Core51.setDPTR_R6 (c : Core51) (v : Word) : (c.setDPTR v).R6 = c.R6 := rfl
@[simp] theorem Core51.setDPTR_R7 (c : Core51) (v : Word) : (c.setDPTR v).R7 = c.R7 := rfl
@[simp] theorem Core51.setDPTR_DPTR (c : Core51) (v : Word) : (c.setDPTR v).DPTR = v := rfl
@[simp] theorem Core51.setDPTR_PC (c : Core51) (v : Word) : (c.setDPTR v).PC = c.PC := rfl
@[simp] theorem Core51.setDPTR_SP (c : Core51) (v : Word) : (c.setDPTR v).SP = c.SP := rfl
@[simp] theorem Core51.setDPTR_PSW (c : Core51) (v : Word) : (c.setDPTR v).PSW = c.PSW := rfl
@[simp] theorem Core51.setDPTR_flags (c : Core51) (v : Word) : (c.setDPTR v).flags = c.flags := rfl
@[simp] theorem Core51.setDPTR_P0 (c : Core51) (v : Word) : (c.setDPTR v).P0 = c.P0 := rfl
@[simp] theorem Core51.setDPTR_P1 (c : Core51) (v : Word) : (c.setDPTR v).P1 = c.P1 := rfl
@[simp] theorem Core51.setDPTR_P2 (c : Core51) (v : Word) : (c.setDPTR v).P2 = c.P2 := rfl
@[simp] theorem Core51.setDPTR_P3 (c : Core51) (v : Word) : (c.setDPTR v).P3 = c.P3 := rfl
@[simp] theorem Core51.setDPTR_mem (c : Core51) (v : Word) : (c.setDPTR v).mem = c.mem := rfl
@[simp] theorem Core51.setDPTR_getR (c : Core51) (v : Word) (r : RN) : (c.setDPTR v).getR r = c.getR r := by cases r <;> rfl
@[simp] theorem Core51.setC_A (c : Core51) (b : Bool) : (c.setC b).A = c.A := rfl
@[simp] theorem Core51.setC_B (c : Core51) (b : Bool) : (c.setC b).B = c.B := rfl
@[simp] theorem Core51.setC_R0 (c : Core51) (b : Bool) : (c.setC b).R0 = c.R0 := rfl
@[simp] theorem Core51.setC_R1 (c : Core51) (b : Bool) : (c.setC b).R1 = c.R1 := rfl
@[simp] theorem Core51.setC_R2 (c : Core51) (b : Bool) : (c.setC b).R2 = c.R2 := rfl
@[simp] theorem Core51.setC_R3 (c : Core51) (b : Bool) : (c.setC b).R3 = c.R3 := rfl
@[simp] theorem Core51.setC_R4 (c : Core51) (b : Bool) : (c.setC b).R4 = c.R4 := rfl
@[simp] theorem Core51.setC_R5 (c : Core51) (b : Bool) : (c.setC b).R5 = c.R5 := rfl
@[simp] theorem Core51.setC_R6 (c : Core51) (b : Bool) : (c.setC b).R6 = c.R6 := rfl
@[simp] theorem Core51.setC_R7 (c : Core51) (b : Bool) : (c.setC b).R7 = c.R7 := rfl
@[simp] theorem Core51.setC_DPTR (c : Core51) (b : Bool) : (c.setC b).DPTR = c.DPTR := rfl
@[simp] theorem Core51.setC_PC (c : Core51) (b : Bool) : (c.setC b).PC = c.PC := rfl
@[simp] theorem Core51.setC_SP (c : Core51) (b : Bool) : (c.setC b).SP = c.SP := rfl
@[simp] theorem Core51.setC_PSW (c : Core51) (b : Bool) : (c.setC b).PSW = c.PSW := rfl
@[simp] theorem Core51.setC_flags_C (c : Core51) (b : Bool) : (c.setC b).flags.C = b := rfl
@[simp] theorem Core51.setC_flags_AC (c : Core51) (b : Bool) : (c.setC b).flags.AC = c.flags.AC := rfl
@[simp] theorem Core51.setC_flags_OV (c : Core51) (b : Bool) : (c.setC b).flags.OV = c.flags.OV := rfl
@[simp] theorem Core51.setC_flags_P (c : Core51) (b : Bool) : (c.setC b).flags.P = c.flags.P := rfl
@[simp] theorem Core51.setC_P0 (c : Core51) (b : Bool) : (c.setC b).P0 = c.P0 := rfl
@[simp] theorem Core51.setC_P1 (c : Core51) (b : Bool) : (c.setC b).P1 = c.P1 := rfl
@[simp] theorem Core51.setC_P2 (c : Core51) (b : Bool) : (c.setC b).P2 = c.P2 := rfl
@[simp] theorem Core51.setC_P3 (c : Core51) (b : Bool) : (c.setC b).P3 = c.P3 := rfl
@[simp] theorem Core51.setC_mem (c : Core51) (b : Bool) : (c.setC b).mem = c.mem := rfl
@[simp] theorem Core51.setC_getR (c : Core51) (b : Bool) (r : RN) : (c.setC b).getR r = c.getR r := by cases r <;> rfl
@[simp] theorem Core51.setOV_A (c : Core51) (b : Bool) : (c.setOV b).A = c.A := rfl
@[simp] theorem Core51.setOV_B (c : Core51) (b : Bool) : (c.setOV b).B = c.B := rfl
@[simp] theorem Core51.setOV_R0 (c : Core51) (b : Bool) : (c.setOV b).R0 = c.R0 := rfl
@[simp] theorem Core51.setOV_R1 (c : Core51) (b : Bool) : (c.setOV b).R1 = c.R1 := rfl
@[simp] theorem Core51.setOV_R2 (c : Core51) (b : Bool) : (c.setOV b).R2 = c.R2 := rfl
@[simp] theorem Core51.setOV_R3 (c : Core51) (b : Bool) : (c.setOV b).R3 = c.R3 := rfl
@[simp] theorem Core51.setOV_R4 (c : Core51) (b : Bool) : (c.setOV b).R4 = c.R4 := rfl
@[simp] theorem Core51.setOV_R5 (c : Core51) (b : Bool) : (c.setOV b).R5 = c.R5 := rfl
@[simp] theorem Core51.setOV_R6 (c : Core51) (b : Bool) : (c.setOV b).R6 = c.R6 := rfl
@[simp] theorem Core51.setOV_R7 (c : Core51) (b : Bool) : (c.setOV b).R7 = c.R7 := rfl
@[simp] theorem Core51.setOV_DPTR (c : Core51) (b : Bool) : (c.setOV b).DPTR = c.DPTR := rfl
@[simp] theorem Core51.setOV_PC (c : Core51) (b : Bool) : (c.setOV b).PC = c.PC := rfl
@[simp] theorem Core51.setOV_SP (c : Core51) (b : Bool) : (c.setOV b).SP = c.SP := rfl
@[simp] theorem Core51.setOV_PSW (c : Core51) (b : Bool) : (c.setOV b).PSW = c.PSW := rfl
@[simp] theorem Core51.setOV_flags_C (c : Core51) (b : Bool) : (c.setOV b).flags.C = c.flags.C := rfl
@[simp] theorem Core51.setOV_flags_AC (c : Core51) (b : Bool) : (c.setOV b).flags.AC = c.flags.AC := rfl
@[simp] theorem Core51.setOV_flags_OV (c : Core51) (b : Bool) : (c.setOV b).flags.OV = b := rfl
@[simp] theorem Core51.setOV_flags_P (c : Core51) (b : Bool) : (c.setOV b).flags.P = c.flags.P := rfl
@[simp] theorem Core51.setOV_P0 (c : Core51) (b : Bool) : (c.setOV b).P0 = c.P0 := rfl
@[simp] theorem Core51.setOV_P1 (c : Core51) (b : Bool) : (c.setOV b).P1 = c.P1 := rfl
@[simp] theorem Core51.setOV_P2 (c : Core51) (b : Bool) : (c.setOV b).P2 = c.P2 := rfl
@[simp] theorem Core51.setOV_P3 (c : Core51) (b : Bool) : (c.setOV b).P3 = c.P3 := rfl
@[simp] theorem Core51.setOV_mem (c : Core51) (b : Bool) : (c.setOV b).mem = c.mem := rfl
@[simp] theorem Core51.setOV_getR (c : Core51) (b : Bool) (r : RN) : (c.setOV b).getR r = c.getR r := by cases r <;> rfl
@[simp] theorem Core51.setPC_A (c : Core51) (p : Config.Params) (v : Nat) : (c.setPC p v).A = c.A := rfl
@[simp] theorem Core51.setPC_B (c : Core51) (p : Config.Params) (v : Nat) : (c.setPC p v).B = c.B := rfl
@[simp] theorem Core51.setPC_R0 (c : Core51) (p : Config.Params) (v : Nat) : (c.setPC p v).R0 = c.R0 := rfl
@[simp] theorem Core51.setPC_R1 (c : Core51) (p : Config.Params) (v : Nat) : (c.setPC p v).R1 = c.R1 := rfl
@[simp] theorem Core51.setPC_R2 (c : Core51) (p : Config.Params) (v : Nat) : (c.setPC p v).R2 = c.R2 := rfl
@[simp] theorem Core51.setPC_R3 (c : Core51) (p : Config.Params) (v : Nat) : (c.setPC p v).R3 = c.R3 := rfl
@[simp] theorem Core51.setPC_R4 (c : Core51) (p : Config.Params) (v : Nat) : (c.setPC p v).R4 = c.R4 := rfl
@[simp] theorem Core51.setPC_R5 (c : Core51) (p : Config.Params) (v : Nat) : (c.setPC p v).R5 = c.R5 := rfl
@[simp] theorem Core51.setPC_R6 (c : Core51) (p : Config.Params) (v : Nat) : (c.setPC p v).R6 = c.R6 := rfl
@[simp] theorem Core51.setPC_R7 (c : Core51) (p : Config.Params) (v : Nat) : (c.setPC p v).R7 = c.R7 := rfl
@[simp] theorem Core51.setPC_DPTR (c : Core51) (p : Config.Params) (v : Nat) : (c.setPC p v).DPTR = c.DPTR := rfl
@[simp] theorem Core51.setPC_PC (c : Core51) (p : Config.Params) (v : Nat) : (c.setPC p v).PC = BitVec.ofNat 16 (v % 2 ^ pcBits p.pcWidth) := rfl
@[simp] theorem Core51.setPC_SP (c : Core51) (p : Config.Params) (v : Nat) : (c.setPC p v).SP = c.SP := rfl
@[simp] theorem Core51.setPC_PSW (c : Core51) (p : Config.Params) (v : Nat) : (c.setPC p v).PSW = c.PSW := rfl
@[simp] theorem Core51.setPC_flags (c : Core51) (p : Config.Params) (v : Nat) : (c.setPC p v).flags = c.flags := rfl
@[simp] theorem Core51.setPC_P0 (c : Core51) (p : Config.Params) (v : Nat) : (c.setPC p v).P0 = c.P0 := rfl
@[simp] theorem Core51.setPC_P1 (c : Core51) (p : Config.Params) (v : Nat) : (c.setPC p v).P1 = c.P1 := rfl
@[simp] theorem Core51.setPC_P2 (c : Core51) (p : Config.Params) (v : Nat) : (c.setPC p v).P2 = c.P2 := rfl
@[simp] theorem Core51.setPC_P3 (c : Core51) (p : Config.Params) (v : Nat) : (c.setPC p v).P3 = c.P3 := rfl
@[simp] theorem Core51.setPC_mem (c : Core51) (p : Config.Params) (v : Nat) : (c.setPC p v).mem = c.mem := rfl
@[simp] theorem Core51.setPC_getR (c : Core51) (p : Config.Params) (v : Nat) (r : RN) : (c.setPC p v).getR r = c.getR r := by cases r <;> rfl
@[simp] theorem Core51.advancePC_A (c : Core51) (p : Config.Params) : (c.advancePC p).A = c.A := rfl
@[simp] theorem Core51.advancePC_B (c : Core51) (p : Config.Params) : (c.advancePC p).B = c.B := rfl
@[simp] theorem Core51.advancePC_R0 (c : Core51) (p : Config.Params) : (c.advancePC p).R0 = c.R0 := rfl
@[simp] theorem Core51.advancePC_R1 (c : Core51) (p : Config.Params) : (c.advancePC p).R1 = c.R1 := rfl
@[simp] theorem Core51.advancePC_R2 (c : Core51) (p : Config.Params) : (c.advancePC p).R2 = c.R2 := rfl
@[simp] theorem Core51.advancePC_R3 (c : Core51) (p : Config.Params) : (c.advancePC p).R3 = c.R3 := rfl
@[simp] theorem Core51.advancePC_R4 (c : Core51) (p : Config.Params) : (c.advancePC p).R4 = c.R4 := rfl
@[simp] theorem Core51.advancePC_R5 (c : Core51) (p : Config.Params) : (c.advancePC p).R5 = c.R5 := rfl
@[simp] theorem Core51.advancePC_R6 (c : Core51) (p : Config.Params) : (c.advancePC p).R6 = c.R6 := rfl
@[simp] theorem Core51.advancePC_R7 (c : Core51) (p : Config.Params) : (c.advancePC p).R7 = c.R7 := rfl
@[simp] theorem Core51.advancePC_DPTR (c : Core51) (p : Config.Params) : (c.advancePC p).DPTR = c.DPTR := rfl
@[simp] theorem Core51.advancePC_PC (c : Core51) (p : Config.Params) : (c.advancePC p).PC = BitVec.ofNat 16 ((c.PC.toNat + p.ipStep.val) % 2 ^ pcBits p.pcWidth) := rfl
@[simp] theorem Core51.advancePC_SP (c : Core51) (p : Config.Params) : (c.advancePC p).SP = c.SP := rfl
@[simp] theorem Core51.advancePC_PSW (c : Core51) (p : Config.Params) : (c.advancePC p).PSW = c.PSW := rfl
@[simp] theorem Core51.advancePC_flags (c : Core51) (p : Config.Params) : (c.advancePC p).flags = c.flags := rfl
@[simp] theorem Core51.advancePC_P0 (c : Core51) (p : Config.Params) : (c.advancePC p).P0 = c.P0 := rfl
@[simp] theorem Core51.advancePC_P1 (c : Core51) (p : Config.Params) : (c.advancePC p).P1 = c.P1 := rfl
@[simp] theorem Core51.advancePC_P2 (c : Core51) (p : Config.Params) : (c.advancePC p).P2 = c.P2 := rfl
@[simp] theorem Core51.advancePC_P3 (c : Core51) (p : Config.Params) : (c.advancePC p).P3 = c.P3 := rfl
@[simp] theorem Core51.advancePC_mem (c : Core51) (p : Config.Params) : (c.advancePC p).mem = c.mem := rfl
@[simp] theorem Core51.advancePC_getR (c : Core51) (p : Config.Params) (r : RN) : (c.advancePC p).getR r = c.getR r := by cases r <;> rfl
@[simp] theorem Core51.memWrite_A (c : Core51) (a : Nat) (v : Byte) : (c.memWrite a v).A = c.A := rfl
@[simp] theorem Core51.memWrite_B (c : Core51) (a : Nat) (v : Byte) : (c.memWrite a v).B = c.B := rfl
@[simp] theorem Core51.memWrite_R0 (c : Core51) (a : Nat) (v : Byte) : (c.memWrite a v).R0 = c.R0 := rfl
@[simp] theorem Core51.memWrite_R1 (c : Core51) (a : Nat) (v : Byte) : (c.memWrite a v).R1 = c.R1 := rfl
@[simp] theorem Core51.memWrite_R2 (c : Core51) (a : Nat) (v : Byte) : (c.memWrite a v).R2 = c.R2 := rfl
@[simp] theorem Core51.memWrite_R3 (c : Core51) (a : Nat) (v : Byte) : (c.memWrite a v).R3 = c.R3 := rfl
@[simp] theorem Core51.memWrite_R4 (c : Core51) (a : Nat) (v : Byte) : (c.memWrite a v).R4 = c.R4 := rfl
@[simp] theorem Core51.memWrite_R5 (c : Core51) (a : Nat) (v : Byte) : (c.memWrite a v).R5 = c.R5 := rfl
@[simp] theorem Core51.memWrite_R6 (c : Core51) (a : Nat) (v : Byte) : (c.memWrite a v).R6 = c.R6 := rfl
@[simp] theorem Core51.memWrite_R7 (c : Core51) (a : Nat) (v : Byte) : (c.memWrite a v).R7 = c.R7 := rfl
@[simp] theorem Core51.memWrite_DPTR (c : Core51) (a : Nat) (v : Byte) : (c.memWrite a v).DPTR = c.DPTR := rfl
@[simp] theorem Core51.memWrite_PC (c : Core51) (a : Nat) (v : Byte) : (c.memWrite a v).PC = c.PC := rfl
@[simp] theorem Core51.memWrite_SP (c : Core51) (a : Nat) (v : Byte) : (c.memWrite a v).SP = c.SP := rfl
@[simp] theorem Core51.memWrite_PSW (c : Core51) (a : Nat) (v : Byte) : (c.memWrite a v).PSW = c.PSW := rfl
@[simp] theorem Core51.memWrite_flags (c : Core51) (a : Nat) (v : Byte) : (c.memWrite a v).flags = c.flags := rfl
@[simp] theorem Core51.memWrite_P0 (c : Core51) (a : Nat) (v : Byte) : (c.memWrite a v).P0 = c.P0 := rfl
@[simp] theorem Core51.memWrite_P1 (c : Core51) (a : Nat) (v : Byte) : (c.memWrite a v).P1 = c.P1 := rfl
@[simp] theorem Core51.memWrite_P2 (c : Core51) (a : Nat) (v : Byte) : (c.memWrite a v).P2 = c.P2 := rfl
@[simp] theorem Core51.memWrite_P3 (c : Core51) (a : Nat) (v : Byte) : (c.memWrite a v).P3 = c.P3 := rfl
@[simp] theorem Core51.memWrite_mem (c : Core51) (a : Nat) (v : Byte) : (c.memWrite a v).mem = writeCell c.mem (a % mem51Size) v := rfl
@[simp] theorem Core51.memWrite_getR (c : Core51) (a : Nat) (v : Byte) (r : RN) : (c.memWrite a v).getR r = c.getR r := by cases r <;> rfl
@[simp] theorem Core51.setR_A (c : Core51) (r : RN) (v : Byte) : (c.setR r v).A = c.A := by cases r <;> rfl
@[simp] theorem Core51.setR_B (c : Core51) (r : RN) (v : Byte) : (c.setR r v).B = c.B := by cases r <;> rfl
@[simp] theorem Core51.setR_DPTR (c : Core51) (r : RN) (v : Byte) : (c.setR r v).DPTR = c.DPTR := by cases r <;> rfl
@[simp] theorem Core51.setR_PC (c : Core51) (r : RN) (v : Byte) : (c.setR r v).PC = c.PC := by cases r <;> rfl
@[simp] theorem Core51.setR_SP (c : Core51) (r : RN) (v : Byte) : (c.setR r v).SP = c.SP := by cases r <;> rfl
@[simp] theorem Core51.setR_PSW (c : Core51) (r : RN) (v : Byte) : (c.setR r v).PSW = c.PSW := by cases r <;> rfl
@[simp] theorem Core51.setR_flags (c : Core51) (r : RN) (v : Byte) : (c.setR r v).flags = c.flags := by cases r <;> rfl
@[simp] theorem Core51.setR_P0 (c : Core51) (r : RN) (v : Byte) : (c.setR r v).P0 = c.P0 := by cases r <;> rfl
@[simp] theorem Core51.setR_P1 (c : Core51) (r : RN) (v : Byte) : (c.setR r v).P1 = c.P1 := by cases r <;> rfl
@[simp] theorem Core51.setR_P2 (c : Core51) (r : RN) (v : Byte) : (c.setR r v).P2 = c.P2 := by cases r <;> rfl
@[simp] theorem Core51.setR_P3 (c : Core51) (r : RN) (v : Byte) : (c.setR r v).P3 = c.P3 := by cases r <;> rfl
@[simp] theorem Core51.setR_mem (c : Core51) (r : RN) (v : Byte) : (c.setR r v).mem = c.mem := by cases r <;> rfl

end Sys2Proof.Machine
end

