-- ==== Sys2Proof/Laws/Memory.lean ====
section
/-! SUPPORT. Memory: reading after writing, and that every memory operation keeps the canonical form. -/

set_option autoImplicit false

namespace Sys2Proof.Machine

@[simp] theorem readCell_nil (a : Nat) : readCell [] a = 0 := rfl

theorem readCell_cons (k : Nat) (v : Byte) (m : Memory) (a : Nat) :
    readCell ((k, v) :: m) a = if a = k then v else readCell m a := rfl

/-- What the canonical form says of a non-empty list. -/
theorem cellsFrom_cons (low size k : Nat) (v : Byte) (m : Memory) :
    cellsFrom low size ((k, v) :: m) = true ↔
      low ≤ k ∧ k < size ∧ v ≠ 0 ∧ cellsFrom (k + 1) size m = true := by
  simp [cellsFrom, and_assoc]

theorem cellsFrom_mono {low low' size : Nat} {m : Memory} (h : low' ≤ low)
    (hm : cellsFrom low size m = true) : cellsFrom low' size m = true := by
  cases m with
  | nil => rfl
  | cons c rest =>
    obtain ⟨k, v⟩ := c
    rw [cellsFrom_cons] at hm ⊢
    exact ⟨h.trans hm.1, hm.2⟩

/-- A cell below the first address reads as 0. -/
theorem readCell_below {low size : Nat} {m : Memory} (hm : cellsFrom low size m = true) {a : Nat}
    (ha : a < low) : readCell m a = 0 := by
  induction m generalizing low with
  | nil => rfl
  | cons c rest ih =>
    obtain ⟨k, v⟩ := c
    rw [cellsFrom_cons] at hm
    rw [readCell_cons, if_neg (by omega)]
    exact ih hm.2.2.2 (by omega)

theorem readCell_writeCell_same {low size : Nat} {m : Memory} (hm : cellsFrom low size m = true)
    (a : Nat) (v : Byte) : readCell (writeCell m a v) a = v := by
  induction m generalizing low with
  | nil =>
    unfold writeCell
    split <;> simp_all [readCell]
  | cons c rest ih =>
    obtain ⟨k, w⟩ := c
    have hc := (cellsFrom_cons low size k w rest).mp hm
    have hrest := hc.2.2.2
    unfold writeCell
    split
    · rename_i hak
      split
      · rename_i hv
        rw [hv, readCell_cons, if_neg (by omega)]
        exact readCell_below hrest (by omega)
      · simp [readCell_cons]
    · split
      · rename_i hak
        subst hak
        split
        · rename_i hv
          rw [hv]
          exact readCell_below hrest (by omega)
        · simp [readCell_cons]
      · rename_i hne
        rw [readCell_cons, if_neg hne]
        exact ih hrest

theorem readCell_writeCell_other {low size : Nat} {m : Memory} (hm : cellsFrom low size m = true)
    {a b : Nat} (hab : b ≠ a) (v : Byte) : readCell (writeCell m a v) b = readCell m b := by
  induction m generalizing low with
  | nil =>
    unfold writeCell
    split <;> simp_all [readCell]
  | cons c rest ih =>
    obtain ⟨k, w⟩ := c
    have hc := (cellsFrom_cons low size k w rest).mp hm
    have hrest := hc.2.2.2
    unfold writeCell
    split
    · split
      · rfl
      · rw [readCell_cons, if_neg hab]
    · split
      · rename_i hak
        subst hak
        rw [readCell_cons, if_neg hab]
        split
        · rfl
        · rw [readCell_cons, if_neg hab]
      · rw [readCell_cons, readCell_cons, ih hrest]

theorem writeCell_keeps_cellsFrom {low size : Nat} {m : Memory} (hm : cellsFrom low size m = true)
    {a : Nat} (hl : low ≤ a) (ha : a < size) (v : Byte) :
    cellsFrom low size (writeCell m a v) = true := by
  induction m generalizing low with
  | nil =>
    unfold writeCell
    split <;> simp_all [cellsFrom]
  | cons c rest ih =>
    obtain ⟨k, w⟩ := c
    have hc := (cellsFrom_cons low size k w rest).mp hm
    unfold writeCell
    split
    · rename_i hak
      split
      · exact hm
      · rename_i hv
        rw [cellsFrom_cons]
        refine ⟨hl, ha, hv, ?_⟩
        rw [cellsFrom_cons]
        exact ⟨by omega, hc.2.1, hc.2.2.1, hc.2.2.2⟩
    · split
      · rename_i hak
        subst hak
        split
        · exact cellsFrom_mono (by omega) hc.2.2.2
        · rename_i hv
          rw [cellsFrom_cons]
          exact ⟨hl, ha, hv, hc.2.2.2⟩
      · rw [cellsFrom_cons]
        exact ⟨hc.1, hc.2.1, hc.2.2.1, ih hc.2.2.2 (by omega)⟩

/-- A write inside the array keeps the canonical form. -/
theorem writeCell_keeps_wf {size : Nat} {m : Memory} (hm : Memory.wf size m = true) {a : Nat}
    (ha : a < size) (v : Byte) : Memory.wf size (writeCell m a v) = true :=
  writeCell_keeps_cellsFrom hm (Nat.zero_le a) ha v

theorem mem86Size_pos : 0 < mem86Size := by decide

theorem mem51Size_pos : 0 < mem51Size := by decide

theorem memWrite86_keeps_wf {c : Core86} (h : Memory.wf mem86Size c.mem = true) (a : Nat) (v : Byte) :
    Memory.wf mem86Size (c.memWrite a v).mem = true :=
  writeCell_keeps_wf h (Nat.mod_lt _ mem86Size_pos) v

theorem memWrite51_keeps_wf {c : Core51} (h : Memory.wf mem51Size c.mem = true) (a : Nat) (v : Byte) :
    Memory.wf mem51Size (c.memWrite a v).mem = true :=
  writeCell_keeps_wf h (Nat.mod_lt _ mem51Size_pos) v

theorem loadFrom86_keeps_wf (bytes : List Byte) (base : Nat) (c : Core86)
    (h : Memory.wf mem86Size c.mem = true) : Memory.wf mem86Size (c.loadFrom base bytes).mem = true := by
  induction bytes generalizing base c with
  | nil => exact h
  | cons b rest ih => exact ih (base + 1) (c.memWrite base b) (memWrite86_keeps_wf h base b)

theorem loadFrom51_keeps_wf (bytes : List Byte) (base : Nat) (c : Core51)
    (h : Memory.wf mem51Size c.mem = true) : Memory.wf mem51Size (c.loadFrom base bytes).mem = true := by
  induction bytes generalizing base c with
  | nil => exact h
  | cons b rest ih => exact ih (base + 1) (c.memWrite base b) (memWrite51_keeps_wf h base b)

/-- A load changes nothing of core86 but its memory. -/
theorem loadFrom86_only_mem (bytes : List Byte) (base : Nat) (c : Core86) :
    c.loadFrom base bytes = { c with mem := (c.loadFrom base bytes).mem } := by
  induction bytes generalizing base c with
  | nil => rfl
  | cons b rest ih => exact ih (base + 1) (c.memWrite base b)

/-- A load changes nothing of core51 but its memory. -/
theorem loadFrom51_only_mem (bytes : List Byte) (base : Nat) (c : Core51) :
    c.loadFrom base bytes = { c with mem := (c.loadFrom base bytes).mem } := by
  induction bytes generalizing base c with
  | nil => rfl
  | cons b rest ih => exact ih (base + 1) (c.memWrite base b)

theorem memRead86_memWrite_same {c : Core86} (h : Memory.wf mem86Size c.mem = true) {a b : Nat}
    (hab : b % mem86Size = a % mem86Size) (v : Byte) : (c.memWrite a v).memRead b = v := by
  unfold Core86.memRead
  rw [hab]
  exact readCell_writeCell_same h _ v

theorem memRead86_memWrite_other {c : Core86} (h : Memory.wf mem86Size c.mem = true) {a b : Nat}
    (hab : b % mem86Size ≠ a % mem86Size) (v : Byte) : (c.memWrite a v).memRead b = c.memRead b :=
  readCell_writeCell_other h hab v

theorem memRead51_memWrite_same {c : Core51} (h : Memory.wf mem51Size c.mem = true) {a b : Nat}
    (hab : b % mem51Size = a % mem51Size) (v : Byte) : (c.memWrite a v).memRead b = v := by
  unfold Core51.memRead
  rw [hab]
  exact readCell_writeCell_same h _ v

theorem memRead51_memWrite_other {c : Core51} (h : Memory.wf mem51Size c.mem = true) {a b : Nat}
    (hab : b % mem51Size ≠ a % mem51Size) (v : Byte) : (c.memWrite a v).memRead b = c.memRead b :=
  readCell_writeCell_other h hab v

/-- Memory at reset has the canonical form. -/
theorem reset_memory_wf :
    Memory.wf mem86Size State.reset.core86.mem = true ∧ Memory.wf mem51Size State.reset.core51.mem = true :=
  ⟨rfl, rfl⟩

end Sys2Proof.Machine
end

