-- ==== Sys2Proof/Laws/Registers.lean ====
section
/-! SUPPORT. Registers: the halves of a word, and reading one register after writing another. -/

set_option autoImplicit false

namespace Sys2Proof.Machine

@[simp] theorem lowHalf_withLow (x : Word) (v : Byte) : lowHalf (withLow x v) = v := by
  unfold lowHalf withLow
  ext i hi
  interval_cases i <;> simp [BitVec.getElem_extractLsb', BitVec.getElem_setWidth]

@[simp] theorem highHalf_withLow (x : Word) (v : Byte) : highHalf (withLow x v) = highHalf x := by
  unfold highHalf withLow
  ext i hi
  interval_cases i <;> simp [BitVec.getElem_extractLsb', BitVec.getElem_setWidth]

@[simp] theorem highHalf_withHigh (x : Word) (v : Byte) : highHalf (withHigh x v) = v := by
  unfold highHalf withHigh
  ext i hi
  interval_cases i <;> simp [BitVec.getElem_extractLsb', BitVec.getElem_setWidth]

@[simp] theorem lowHalf_withHigh (x : Word) (v : Byte) : lowHalf (withHigh x v) = lowHalf x := by
  unfold lowHalf withHigh
  ext i hi
  interval_cases i <;> simp [BitVec.getElem_extractLsb', BitVec.getElem_setWidth]

/-- A half as a number. -/
theorem lowHalf_toNat (x : Word) : (lowHalf x).toNat = x.toNat % 256 := by
  simp [lowHalf, BitVec.extractLsb'_toNat]

theorem highHalf_toNat (x : Word) : (highHalf x).toNat = x.toNat / 256 := by
  have h := x.isLt
  simp only [highHalf, BitVec.extractLsb'_toNat, Nat.shiftRight_eq_div_pow]
  omega

@[simp] theorem getR16_setR16_same (c : Core86) (r : R16) (v : Word) : (c.setR16 r v).getR16 r = v := by
  cases r <;> rfl

theorem getR16_setR16_other (c : Core86) {r r' : R16} (h : r' ≠ r) (v : Word) :
    (c.setR16 r v).getR16 r' = c.getR16 r' := by
  cases r <;> cases r' <;> first | rfl | exact absurd rfl h

@[simp] theorem getR8_setR8_same (c : Core86) (r : R8) (v : Byte) : (c.setR8 r v).getR8 r = v := by
  cases r <;> simp [Core86.getR8, Core86.setR8]

theorem getR8_setR8_other (c : Core86) {r r' : R8} (h : r' ≠ r) (v : Byte) :
    (c.setR8 r v).getR8 r' = c.getR8 r' := by
  cases r <;> cases r' <;> first | exact absurd rfl h | rfl | simp [Core86.getR8, Core86.setR8]

@[simp] theorem getR_setR_same (c : Core51) (r : RN) (v : Byte) : (c.setR r v).getR r = v := by
  cases r <;> rfl

theorem getR_setR_other (c : Core51) {r r' : RN} (h : r' ≠ r) (v : Byte) :
    (c.setR r v).getR r' = c.getR r' := by
  cases r <;> cases r' <;> first | rfl | exact absurd rfl h

/-- The number of set bits among the low eight, bit by bit. -/
theorem popcount8_testBit (v : Nat) :
    popcount8 v = ((List.range 8).map (fun k => (v.testBit k).toNat)).sum := by
  unfold popcount8
  generalize List.range 8 = l
  induction l with
  | nil => rfl
  | cons k rest ih =>
    by_cases h : v.testBit k = true
    · simp [h, ih, Nat.add_comm]
    · simp [h, ih]

end Sys2Proof.Machine
end

