-- ==== Sys2Proof/Laws/Ops.lean ====
section
/-! SUPPORT. For each shared operation, once, everything it can do. -/

set_option autoImplicit false

namespace Sys2Proof.Machine

theorem complete86_next (s t : State) (c : Core86) :
    complete86 s c = .next t ↔ t = (s.withCore86 (c.advanceIP s.params.ipStep)).report .ok := by
  constructor
  · intro h; exact ((Host.Outcome.next.inj h).symm)
  · intro h; rw [h]; rfl

theorem jump86_next (s t : State) (n : Nat) :
    jump86 s n = .next t ↔ t = (s.withCore86 (s.core86.setIP n)).report .ok := by
  constructor
  · intro h; exact ((Host.Outcome.next.inj h).symm)
  · intro h; rw [h]; rfl

theorem branch86_next (taken : Bool) (n : Nat) (s t : State) :
    branch86 taken n s = .next t ↔
      (taken = true ∧ t = (s.withCore86 (s.core86.setIP n)).report .ok) ∨
      (taken = false ∧ t = (s.withCore86 (s.core86.advanceIP s.params.ipStep)).report .ok) := by
  cases taken <;> simp [branch86, jump86_next, complete86_next]

theorem unknown86_next (s t : State) : unknown86 s = .next t ↔ t = s.report .unknownInstruction := by
  constructor
  · intro h; exact ((Host.Outcome.next.inj h).symm)
  · intro h; rw [h]; rfl

theorem complete51_next (s t : State) (c : Core51) :
    complete51 s c = .next t ↔ t = (s.withCore51 (c.advancePC s.params)).report .ok := by
  constructor
  · intro h; exact ((Host.Outcome.next.inj h).symm)
  · intro h; rw [h]; rfl

theorem jump51_next (s t : State) (n : Nat) :
    jump51 s n = .next t ↔ t = (s.withCore51 (s.core51.setPC s.params n)).report .ok := by
  constructor
  · intro h; exact ((Host.Outcome.next.inj h).symm)
  · intro h; rw [h]; rfl

theorem branch51_next (taken : Bool) (n : Nat) (s t : State) :
    branch51 taken n s = .next t ↔
      (taken = true ∧ t = (s.withCore51 (s.core51.setPC s.params n)).report .ok) ∨
      (taken = false ∧ t = (s.withCore51 (s.core51.advancePC s.params)).report .ok) := by
  cases taken <;> simp [branch51, jump51_next, complete51_next]

theorem divideByZero51_next (s t : State) :
    divideByZero51 s = .next t ↔ t = (s.withCore51 (s.core51.setOV true)).report .divByZero := by
  constructor
  · intro h; exact ((Host.Outcome.next.inj h).symm)
  · intro h; rw [h]; rfl

theorem move86_next (d : Dst86) (src : Opd86) (s t : State) :
    move86 d src s = .next t ↔
      t = (s.withCore86 ((s.core86.write d (s.core86.val src)).advanceIP s.params.ipStep)).report .ok :=
  complete86_next s t _

theorem binary86_next (m : Arith86) (d : Dst86) (src : Opd86) (s t : State) :
    binary86 m d src s = .next t ↔
      ∃ w a b, w = width2 (dstOpd86 d) src ∧ a = s.core86.val (dstOpd86 d) % widthSize w ∧
        b = s.core86.val src % widthSize w ∧
        t = (s.withCore86 (((s.core86.withFlags (flags86 m w a b s.core86.flags)).write d
          (result86 m w a b)).advanceIP s.params.ipStep)).report .ok := by
  unfold binary86
  rw [complete86_next]
  simp

theorem compare86_next (l r : Opd86) (s t : State) :
    compare86 l r s = .next t ↔
      ∃ w a b, w = width2 l r ∧ a = s.core86.val l % widthSize w ∧ b = s.core86.val r % widthSize w ∧
        t = (s.withCore86 ((s.core86.withFlags (flags86 .cmp w a b s.core86.flags)).advanceIP
          s.params.ipStep)).report .ok := by
  unfold compare86
  rw [complete86_next]
  simp

theorem unary86_next (m : Arith86) (d : Dst86) (s t : State) :
    unary86 m d s = .next t ↔
      ∃ w a, w = width1 s.params d ∧ a = s.core86.val (dstOpd86 d) % widthSize w ∧
        t = (s.withCore86 (((s.core86.withFlags (flags86 m w a 1 s.core86.flags)).write d
          (result86 m w a 1)).advanceIP s.params.ipStep)).report .ok := by
  unfold unary86
  rw [complete86_next]
  simp

theorem move51_next (d : Loc51) (src : Src51) (s t : State) :
    move51 d src s = .next t ↔
      t = (s.withCore51 ((s.core51.write s.params d (s.core51.val src)).advancePC s.params)).report .ok :=
  complete51_next s t _

theorem moveDptr51_next (n : Nat) (s t : State) :
    moveDptr51 n s = .next t ↔
      t = (s.withCore51 ((s.core51.setDPTR (BitVec.ofNat 16 n)).advancePC s.params)).report .ok :=
  complete51_next s t _

theorem loadExternal51_next (a : Nat) (s t : State) :
    loadExternal51 a s = .next t ↔
      t = (s.withCore51 ((s.core51.setA s.params (s.core51.memRead a)).advancePC s.params)).report .ok := by
  have h : BitVec.ofNat 8 (s.core51.memRead a).toNat = s.core51.memRead a := by simp
  unfold loadExternal51
  rw [complete51_next]
  simp only [Core51.write, h]

theorem storeExternal51_next (a : Nat) (s t : State) :
    storeExternal51 a s = .next t ↔
      t = (s.withCore51 ((s.core51.memWrite a s.core51.A).advancePC s.params)).report .ok :=
  complete51_next s t _

theorem increment51_next (l : Loc51) (s t : State) :
    increment51 l s = .next t ↔
      t = (s.withCore51 ((s.core51.write s.params l ((s.core51.get l).toNat + 1)).advancePC
        s.params)).report .ok :=
  complete51_next s t _

theorem decrement51_next (l : Loc51) (s t : State) :
    decrement51 l s = .next t ↔
      t = (s.withCore51 ((s.core51.write s.params l ((s.core51.get l).toNat + 255)).advancePC
        s.params)).report .ok :=
  complete51_next s t _

end Sys2Proof.Machine
end

