-- ==== Sys2Proof/Laws/Effects.lean ====
section
/-! SUPPORT. The model's operand reads, writes, widths and parity in the terms the claims use
(`Sys2Proof.Safety`), once each. -/

set_option autoImplicit false

namespace Sys2Proof.Machine

open Sys2Proof.Safety

/-- Reading an operand gives its value (R132). -/
theorem val_eq_operandValue86 (c : Core86) (o : Opd86) : c.val o = operandValue86 c o := by
  cases o with
  | r8 r => cases r <;> simp [Core86.val, operandValue86, Core86.getR8, lowHalf_toNat, highHalf_toNat]
  | r16 r => rfl
  | lit n => rfl

theorem width2_eq_operationWidth (l r : Opd86) : width2 l r = operationWidth l r := by
  cases l <;> cases r <;> rfl

theorem width1_eq_unaryWidth (p : Config.Params) (d : Dst86) : width1 p d = unaryWidth p d := by
  cases d <;> rfl

/-- The set bits of the low byte, as a sum of digits. -/
theorem popcount8_eq_setBits (n : Nat) : popcount8 n = setBits n := by
  have h : ∀ k, (n.testBit k).toNat = n / 2 ^ k % 2 := by
    intro k
    rw [Nat.testBit_eq_decide_div_mod_eq]
    rcases Nat.mod_two_eq_zero_or_one (n / 2 ^ k) with h | h <;> simp [h]
  rw [popcount8_testBit]
  simp [List.range, List.range.loop, h, setBits]
  omega

/-- Everything a write of a core86 destination does (R21, R133). -/
theorem write86_wrote (c : Core86) (d : Dst86) (v : Nat) : Wrote86 d v c (c.write d v) := by
  cases d with
  | r16 r =>
    exact ⟨by simp [Core86.write], fun r' h => getR16_setR16_other c h _⟩
  | r8 r =>
    refine ⟨by simp [Core86.write], fun r' h => getR8_setR8_other c h _, ?_⟩
    cases r <;> exact ⟨rfl, rfl, rfl, rfl⟩

/-- What a write of a core86 destination leaves alone. -/
theorem write86_keeps (c : Core86) (d : Dst86) (v : Nat) :
    Inert86 c (c.write d v) ∧ (c.write d v).flags = c.flags ∧ (c.write d v).halted = c.halted ∧
      (c.write d v).IP = c.IP ∧ (c.write d v).mem = c.mem := by
  cases d with
  | r16 r => cases r <;> exact ⟨⟨rfl, rfl, rfl, rfl, rfl, rfl, rfl, fun _ => rfl⟩, rfl, rfl, rfl, rfl⟩
  | r8 r => cases r <;> exact ⟨⟨rfl, rfl, rfl, rfl, rfl, rfl, rfl, fun _ => rfl⟩, rfl, rfl, rfl, rfl⟩

/-- Everything a write of an 8-bit core51 register does (R183). -/
theorem write51_wrote (c : Core51) (p : Config.Params) (l : Loc51) (v : Nat) :
    ((c.write p l v).get l).toNat = v % 256 ∧ (∀ l', l' ≠ l → (c.write p l v).get l' = c.get l') ∧
      (l = .A → (c.write p l v).flags.P = par51 p.parityOdd (c.write p l v).A) ∧
      (l ≠ .A → (c.write p l v).flags.P = c.flags.P) := by
  refine ⟨?_, ?_, ?_, ?_⟩
  · cases l with
    | A => simp [Core51.write, Core51.setA, Core51.get]
    | B => simp [Core51.write, Core51.setB, Core51.get]
    | R r => simp [Core51.write, Core51.get]
  · intro l' h
    cases l with
    | A => cases l' <;> first | rfl | exact absurd rfl h
    | B => cases l' <;> first | rfl | exact absurd rfl h
    | R r =>
      cases l' with
      | A => cases r <;> rfl
      | B => cases r <;> rfl
      | R r' => exact getR_setR_other c (fun he => h (by rw [he])) _
  · rintro rfl
    rfl
  · intro h
    cases l with
    | A => exact absurd rfl h
    | B => rfl
    | R r => cases r <;> rfl

/-- What a write of an 8-bit core51 register leaves alone. -/
theorem write51_keeps (c : Core51) (p : Config.Params) (l : Loc51) (v : Nat) :
    Inert51 c (c.write p l v) ∧ (c.write p l v).flags.C = c.flags.C ∧
      (c.write p l v).flags.OV = c.flags.OV ∧ (c.write p l v).DPTR = c.DPTR ∧
      (c.write p l v).PC = c.PC ∧ (c.write p l v).mem = c.mem := by
  cases l with
  | A => exact ⟨⟨rfl, rfl, rfl, rfl, rfl, rfl, rfl⟩, rfl, rfl, rfl, rfl, rfl⟩
  | B => exact ⟨⟨rfl, rfl, rfl, rfl, rfl, rfl, rfl⟩, rfl, rfl, rfl, rfl, rfl⟩
  | R r => cases r <;> exact ⟨⟨rfl, rfl, rfl, rfl, rfl, rfl, rfl⟩, rfl, rfl, rfl, rfl, rfl⟩

end Sys2Proof.Machine
end

