-- ==== Sys2Proof/Laws/PerInstr.lean ====
section
/-! SUPPORT. One lemma per instruction: the length of its encoding (spec 30_encoding.md R110). -/

set_option autoImplicit false

namespace Sys2Proof.Laws.EncodeLength

open Sys2Proof

/-- The most bytes an encoded instruction of a core has (R110). -/
def longest : Arch → Nat
  | .core86 => 4
  | .core51 => 3

/-- An instruction that has an encoding has one of 1 to 4 bytes on core86, 1 to 3 on core51 (R110). -/
def Statement (i : Instr) : Prop :=
  ∀ bs : List Byte, encode i = some bs → 1 ≤ bs.length ∧ bs.length ≤ longest i.arch

/-- The encoding of an instruction, if it is known to be these bytes, has their length. -/
theorem of_bytes {i : Instr} {known : List Byte} (h : encode i = some known) (h1 : Nat.ble 1 known.length = true)
    (h2 : Nat.ble known.length (longest i.arch) = true) : Statement i := by
  intro bs hbs
  rw [h] at hbs
  cases hbs
  exact ⟨Nat.le_of_ble_eq_true h1, Nat.le_of_ble_eq_true h2⟩

/-- An instruction without an encoding. -/
theorem of_none {i : Instr} (h : encode i = none) : Statement i := by
  intro bs hbs
  rw [h] at hbs
  cases hbs

theorem x86MovR16Imm16 (r : R16) (n : Word) : Statement (.x86MovR16Imm16 r n) := of_bytes rfl rfl rfl

theorem x86MovR8Imm8 (r : R8) (n : Byte) : Statement (.x86MovR8Imm8 r n) := of_bytes rfl rfl rfl

theorem x86MovR16R16 (d s : R16) : Statement (.x86MovR16R16 d s) := of_bytes rfl rfl rfl

theorem x86MovR8R8 (d s : R8) : Statement (.x86MovR8R8 d s) := of_bytes rfl rfl rfl

theorem x86AddR16Imm16 (r : R16) (n : Word) : Statement (.x86AddR16Imm16 r n) := of_bytes rfl rfl rfl

theorem x86AddR8Imm8 (r : R8) (n : Byte) : Statement (.x86AddR8Imm8 r n) := of_bytes rfl rfl rfl

theorem x86AddR16R16 (d s : R16) : Statement (.x86AddR16R16 d s) := of_bytes rfl rfl rfl

theorem x86AddR8R8 (d s : R8) : Statement (.x86AddR8R8 d s) := of_bytes rfl rfl rfl

theorem x86SubR16Imm16 (r : R16) (n : Word) : Statement (.x86SubR16Imm16 r n) := of_bytes rfl rfl rfl

theorem x86SubR8Imm8 (r : R8) (n : Byte) : Statement (.x86SubR8Imm8 r n) := of_bytes rfl rfl rfl

theorem x86SubR16R16 (d s : R16) : Statement (.x86SubR16R16 d s) := of_bytes rfl rfl rfl

theorem x86SubR8R8 (d s : R8) : Statement (.x86SubR8R8 d s) := of_bytes rfl rfl rfl

theorem x86CmpR16Imm16 (r : R16) (n : Word) : Statement (.x86CmpR16Imm16 r n) := of_bytes rfl rfl rfl

theorem x86CmpR8Imm8 (r : R8) (n : Byte) : Statement (.x86CmpR8Imm8 r n) := of_bytes rfl rfl rfl

theorem x86CmpR16R16 (d s : R16) : Statement (.x86CmpR16R16 d s) := of_bytes rfl rfl rfl

theorem x86CmpR8R8 (d s : R8) : Statement (.x86CmpR8R8 d s) := of_bytes rfl rfl rfl

theorem x86IncR16 (r : R16) : Statement (.x86IncR16 r) := of_bytes rfl rfl rfl

theorem x86IncR8 (r : R8) : Statement (.x86IncR8 r) := of_bytes rfl rfl rfl

theorem x86DecR16 (r : R16) : Statement (.x86DecR16 r) := of_bytes rfl rfl rfl

theorem x86DecR8 (r : R8) : Statement (.x86DecR8 r) := of_bytes rfl rfl rfl

theorem x86AndR16Imm16 (r : R16) (n : Word) : Statement (.x86AndR16Imm16 r n) := of_bytes rfl rfl rfl

theorem x86AndR8Imm8 (r : R8) (n : Byte) : Statement (.x86AndR8Imm8 r n) := of_bytes rfl rfl rfl

theorem x86AndR16R16 (d s : R16) : Statement (.x86AndR16R16 d s) := of_bytes rfl rfl rfl

theorem x86AndR8R8 (d s : R8) : Statement (.x86AndR8R8 d s) := of_bytes rfl rfl rfl

theorem x86OrR16Imm16 (r : R16) (n : Word) : Statement (.x86OrR16Imm16 r n) := of_bytes rfl rfl rfl

theorem x86OrR8Imm8 (r : R8) (n : Byte) : Statement (.x86OrR8Imm8 r n) := of_bytes rfl rfl rfl

theorem x86OrR16R16 (d s : R16) : Statement (.x86OrR16R16 d s) := of_bytes rfl rfl rfl

theorem x86OrR8R8 (d s : R8) : Statement (.x86OrR8R8 d s) := of_bytes rfl rfl rfl

theorem x86XorR16Imm16 (r : R16) (n : Word) : Statement (.x86XorR16Imm16 r n) := of_bytes rfl rfl rfl

theorem x86XorR8Imm8 (r : R8) (n : Byte) : Statement (.x86XorR8Imm8 r n) := of_bytes rfl rfl rfl

theorem x86XorR16R16 (d s : R16) : Statement (.x86XorR16R16 d s) := of_bytes rfl rfl rfl

theorem x86XorR8R8 (d s : R8) : Statement (.x86XorR8R8 d s) := of_bytes rfl rfl rfl

theorem x86Jmp (t : Word) : Statement (.x86Jmp t) := of_bytes rfl rfl rfl

theorem x86Je (t : Byte) : Statement (.x86Je t) := of_bytes rfl rfl rfl

theorem x86Jz (t : Byte) : Statement (.x86Jz t) := of_bytes rfl rfl rfl

theorem x86Jne (t : Byte) : Statement (.x86Jne t) := of_bytes rfl rfl rfl

theorem x86Jnz (t : Byte) : Statement (.x86Jnz t) := of_bytes rfl rfl rfl

theorem x86Hlt : Statement .x86Hlt := of_bytes rfl rfl rfl

theorem i51MovAImm (n : Byte) : Statement (.i51MovAImm n) := of_bytes rfl rfl rfl

theorem i51MovBImm (n : Byte) : Statement (.i51MovBImm n) := of_bytes rfl rfl rfl

theorem i51MovRnImm (r : RN) (n : Byte) : Statement (.i51MovRnImm r n) := of_bytes rfl rfl rfl

theorem i51MovDptrImm (n : Word) : Statement (.i51MovDptrImm n) := of_bytes rfl rfl rfl

theorem i51MovARn (r : RN) : Statement (.i51MovARn r) := of_bytes rfl rfl rfl

theorem i51MovRnA (r : RN) : Statement (.i51MovRnA r) := of_bytes rfl rfl rfl

theorem i51MovAB : Statement .i51MovAB := of_bytes rfl rfl rfl

theorem i51MovBA : Statement .i51MovBA := of_bytes rfl rfl rfl

theorem i51MovBRn (r : RN) : Statement (.i51MovBRn r) := of_bytes rfl rfl rfl

theorem i51MovRnB (r : RN) : Statement (.i51MovRnB r) := of_bytes rfl rfl rfl

theorem i51MovxADptr : Statement .i51MovxADptr := of_bytes rfl rfl rfl

theorem i51MovxDptrA : Statement .i51MovxDptrA := of_bytes rfl rfl rfl

theorem i51MovxARi (i : RI) : Statement (.i51MovxARi i) := of_bytes rfl rfl rfl

theorem i51MovxRiA (i : RI) : Statement (.i51MovxRiA i) := of_bytes rfl rfl rfl

theorem i51IncA : Statement .i51IncA := of_bytes rfl rfl rfl

theorem i51IncB : Statement .i51IncB := of_bytes rfl rfl rfl

theorem i51IncRn (r : RN) : Statement (.i51IncRn r) := of_bytes rfl rfl rfl

theorem i51IncDptr : Statement .i51IncDptr := of_bytes rfl rfl rfl

theorem i51DecA : Statement .i51DecA := of_bytes rfl rfl rfl

theorem i51DecB : Statement .i51DecB := of_bytes rfl rfl rfl

theorem i51DecRn (r : RN) : Statement (.i51DecRn r) := of_bytes rfl rfl rfl

theorem i51DecDptr : Statement .i51DecDptr := of_bytes rfl rfl rfl

theorem i51MulAB : Statement .i51MulAB := of_bytes rfl rfl rfl

theorem i51DivAB : Statement .i51DivAB := of_bytes rfl rfl rfl

theorem i51RlcA : Statement .i51RlcA := of_bytes rfl rfl rfl

theorem i51RrcA : Statement .i51RrcA := of_bytes rfl rfl rfl

theorem i51ClrC : Statement .i51ClrC := of_bytes rfl rfl rfl

theorem i51SetbC : Statement .i51SetbC := of_bytes rfl rfl rfl

theorem i51CplC : Statement .i51CplC := of_bytes rfl rfl rfl

theorem i51Sjmp (t : Byte) : Statement (.i51Sjmp t) := of_bytes rfl rfl rfl

theorem i51Jz (t : Byte) : Statement (.i51Jz t) := of_bytes rfl rfl rfl

theorem i51Jnz (t : Byte) : Statement (.i51Jnz t) := of_bytes rfl rfl rfl

theorem i51Jc (t : Byte) : Statement (.i51Jc t) := of_bytes rfl rfl rfl

theorem i51Jnc (t : Byte) : Statement (.i51Jnc t) := of_bytes rfl rfl rfl

theorem x86MovForm (d : Dst86) (src : Opd86) : Statement (.x86MovForm d src) := of_none rfl

theorem x86AddForm (d : Dst86) (src : Opd86) : Statement (.x86AddForm d src) := of_none rfl

theorem x86SubForm (d : Dst86) (src : Opd86) : Statement (.x86SubForm d src) := of_none rfl

theorem x86CmpForm (l r : Opd86) : Statement (.x86CmpForm l r) := of_none rfl

theorem x86AndForm (d : Dst86) (src : Opd86) : Statement (.x86AndForm d src) := of_none rfl

theorem x86OrForm (d : Dst86) (src : Opd86) : Statement (.x86OrForm d src) := of_none rfl

theorem x86XorForm (d : Dst86) (src : Opd86) : Statement (.x86XorForm d src) := of_none rfl

theorem x86JmpLit (n : Nat) : Statement (.x86JmpLit n) := of_none rfl

theorem x86JeLit (n : Nat) : Statement (.x86JeLit n) := of_none rfl

theorem x86JzLit (n : Nat) : Statement (.x86JzLit n) := of_none rfl

theorem x86JneLit (n : Nat) : Statement (.x86JneLit n) := of_none rfl

theorem x86JnzLit (n : Nat) : Statement (.x86JnzLit n) := of_none rfl

theorem x86Div : Statement .x86Div := of_none rfl

theorem i51MovForm (d : Loc51) (src : Src51) : Statement (.i51MovForm d src) := of_none rfl

theorem i51MovDptrLit (n : Nat) : Statement (.i51MovDptrLit n) := of_none rfl

theorem i51SjmpLit (n : Nat) : Statement (.i51SjmpLit n) := of_none rfl

theorem i51JzLit (n : Nat) : Statement (.i51JzLit n) := of_none rfl

theorem i51JnzLit (n : Nat) : Statement (.i51JnzLit n) := of_none rfl

theorem i51JcLit (n : Nat) : Statement (.i51JcLit n) := of_none rfl

theorem i51JncLit (n : Nat) : Statement (.i51JncLit n) := of_none rfl

end Sys2Proof.Laws.EncodeLength
end

