-- ==== Sys2Proof/Laws/Text.lean ====
section
/-! SUPPORT. Numerals: reading back what `hexNumeral` writes (spec 30_encoding.md R84, R85, R96). -/

set_option autoImplicit false

namespace Sys2Proof.Machine

theorem hexDigits_succ (k n : Nat) : hexDigits (k + 1) n = hexDigits k (n / 16) ++ [hexDigit (n % 16)] := rfl

theorem hexDigits_length (k n : Nat) : (hexDigits k n).length = k := by
  induction k generalizing n with
  | zero => rfl
  | succ k ih => simp [hexDigits_succ, ih]

/-- A hexadecimal digit reads back as its value. -/
theorem radixDigit_hexDigit {d : Nat} (h : d < 16) : radixDigit 16 (hexDigit d) = some d := by
  have all : ∀ x : Fin 16, radixDigit 16 (hexDigit x.val) = some x.val := by decide
  exact all ⟨d, h⟩

theorem isLowerLetter_hexDigit {d : Nat} (h : d < 16) : isLowerLetter (hexDigit d) = false := by
  have all : ∀ x : Fin 16, isLowerLetter (hexDigit x.val) = false := by decide
  exact all ⟨d, h⟩

theorem isLowerLetter_hexDigits (k n : Nat) : (hexDigits k n).any isLowerLetter = false := by
  induction k generalizing n with
  | zero => rfl
  | succ k ih => simp [hexDigits_succ, ih, isLowerLetter_hexDigit (Nat.mod_lt n (by decide : 0 < 16))]

/-- Digits read before and after a point of the string. -/
theorem digitsFrom_append (radix acc : Nat) (xs ys : List Char) :
    digitsFrom radix acc (xs ++ ys) =
      match digitsFrom radix acc xs with
      | some m => digitsFrom radix m ys
      | none => none := by
  induction xs generalizing acc with
  | nil => rfl
  | cons c rest ih =>
    simp only [List.cons_append, digitsFrom]
    cases radixDigit radix c with
    | none => rfl
    | some d => exact ih _

/-- The digits of a number read back as its low part. -/
theorem digitsFrom_hexDigits (k n acc : Nat) :
    digitsFrom 16 acc (hexDigits k n) = some (acc * 16 ^ k + n % 16 ^ k) := by
  induction k generalizing n with
  | zero => simp [hexDigits, digitsFrom, Nat.mod_one]
  | succ k ih =>
    have hm : n % 16 ^ (k + 1) = 16 * (n / 16 % 16 ^ k) + n % 16 := by
      rw [Nat.pow_succ, Nat.mul_comm, Nat.mod_mul]
      omega
    rw [hexDigits_succ, digitsFrom_append, ih]
    simp only [digitsFrom, radixDigit_hexDigit (Nat.mod_lt n (by decide : 0 < 16)), hm, Option.some.injEq]
    ring

theorem hexDigits_ne_nil {k : Nat} (h : 0 < k) (n : Nat) : hexDigits k n ≠ [] := by
  intro hn
  have := hexDigits_length k n
  simp [hn] at this
  omega

theorem strictBody_hexDigits (t : Token) {k n : Nat} (hk : 0 < k) (hn : n < 16 ^ k) :
    strictBody t 16 (hexDigits k n) = .ok (.value n) := by
  have he : (hexDigits k n).isEmpty = false := by
    simp [hexDigits_ne_nil hk n]
  simp [strictBody, he, digitsFrom_hexDigits, Nat.mod_eq_of_lt hn]

/-- No name of either architecture begins with a digit zero. -/
theorem isName_zero (a : Arch) (rest : List Char) : isName a ('0' :: rest) = false := by
  cases a <;> rfl

/-- A `0x` numeral is its value on both architectures. -/
theorem lit_hexNumeral (a : Arch) {k n : Nat} (hk : 0 < k) (hn : n < 16 ^ k) :
    lit a (hexNumeral k n) = .ok (.value n) := by
  have hlow : hasLowerCase (hexNumeral k n) = false := isLowerLetter_hexDigits k n
  have hbody : stripMarker (hexNumeral k n) = hexNumeral k n := rfl
  unfold lit
  simp only [hlow, hbody]
  exact strictBody_hexDigits _ hk hn

/-- A `0x` numeral with the immediate marker is its value on both architectures. -/
theorem lit_marked_hexNumeral (a : Arch) {k n : Nat} (hk : 0 < k) (hn : n < 16 ^ k) :
    lit a ('#' :: hexNumeral k n) = .ok (.value n) := by
  have hlow : hasLowerCase ('#' :: hexNumeral k n) = false := isLowerLetter_hexDigits k n
  have hbody : stripMarker ('#' :: hexNumeral k n) = hexNumeral k n := rfl
  have hname : isName a (hexNumeral k n) = false := isName_zero a _
  unfold lit
  simp only [hlow, hbody, hname]
  exact strictBody_hexDigits _ hk hn

/-- `hexLength` digits are enough. -/
theorem lt_hexLength (n : Nat) : n < 16 ^ hexLength n := by
  have h1 : n < 2 ^ (Nat.log2 n + 1) := Nat.lt_log2_self
  have h2 : (16 : Nat) ^ hexLength n = 2 ^ (4 * hexLength n) := by
    rw [Nat.pow_mul]
  rw [h2]
  refine lt_of_lt_of_le h1 (Nat.pow_le_pow_right (by decide) ?_)
  unfold hexLength
  omega

theorem hexLength_pos (n : Nat) : 0 < hexLength n := Nat.succ_pos _

end Sys2Proof.Machine
end

