-- ==== Sys2Proof/Tests/Slice0.lean ====
section
/-! SUPPORT. The model's own tests. Words and their instructions are written out from the encoding tables
(spec 30_encoding.md R106, R107; R108 for what a shadowed entry decodes to); results are those of the
vectors of 95_test_vectors.md (named in each comment) or worked out from the rule named. Last come the
witnesses: for each statement with hypotheses, states and operands that meet them. -/

set_option autoImplicit false

namespace Sys2Proof.Tests

open Sys2Proof Sys2Proof.Machine Sys2Proof.Safety

/-- core86 after one line, from a state with these parameters. -/
def run86 (p : Config.Params) (c : Core86) (line : String) : Core86 :=
  match parseLine line.toList with
  | none => c
  | some r =>
    match executeRecord .core86 r { State.reset with core86 := c, params := p } with
    | .next t => t.core86
    | _ => { c with halted := true, IP := 0xDEAD }

/-- core51 after one line, from a state with these parameters. -/
def run51 (p : Config.Params) (c : Core51) (line : String) : Core51 :=
  match parseLine line.toList with
  | none => c
  | some r =>
    match executeRecord .core51 r { State.reset with core51 := c, params := p } with
    | .next t => t.core51
    | _ => { c with PC := 0xDEAD }

/-- The refusal of one line. -/
def refusalOf (a : Arch) (line : String) : Option Refusal :=
  match parseLine line.toList with
  | none => none
  | some r =>
    match executeRecord a r State.reset with
    | .refused e => some e
    | _ => none

/-! ### Words -/

theorem test_word_x1 : encode (.x86MovR16Imm16 .CX 0x1234) = some [0xB9, 0x34, 0x12] ∧
    decode .core86 [0xB9, 0x34, 0x12] = some (.x86MovR16Imm16 .CX 0x1234, 3) := by decide

theorem test_word_x2 : encode (.x86MovR8Imm8 .BH 0x7F) = some [0xB7, 0x7F] ∧
    decode .core86 [0xB7, 0x7F] = some (.x86MovR8Imm8 .BH 0x7F, 2) := by decide

theorem test_word_x3 : encode (.x86MovR16R16 .BX .CX) = some [0x8B, 0xD9] ∧
    decode .core86 [0x8B, 0xD9] = some (.x86MovR16R16 .AX .AX, 2) := by decide

theorem test_word_x4 : encode (.x86MovR8R8 .AH .AL) = some [0x8A, 0xE0] ∧
    decode .core86 [0x8A, 0xE0] = some (.x86MovR8R8 .AL .AL, 2) := by decide

theorem test_word_x5 : encode (.x86AddR16Imm16 .BX 0xBEEF) = some [0x81, 0xC3, 0xEF, 0xBE] ∧
    decode .core86 [0x81, 0xC3, 0xEF, 0xBE] = some (.x86AddR16Imm16 .AX 0xBEEF, 4) := by decide

theorem test_word_x6 : encode (.x86AddR8Imm8 .BH 5) = some [0x80, 0xC7, 0x05] ∧
    decode .core86 [0x80, 0xC7, 0x05] = some (.x86AddR8Imm8 .AL 5, 3) := by decide

theorem test_word_x7 : encode (.x86AddR16R16 .AX .BX) = some [0x03, 0xC3] ∧
    decode .core86 [0x03, 0xC3] = some (.x86AddR16R16 .AX .AX, 2) := by decide

theorem test_word_x8 : encode (.x86AddR8R8 .CL .DL) = some [0x02, 0xCA] ∧
    decode .core86 [0x02, 0xCA] = some (.x86AddR8R8 .AL .AL, 2) := by decide

theorem test_word_x9 : encode (.x86SubR16Imm16 .CX 0x10) = some [0x81, 0xE9, 0x10, 0x00] ∧
    decode .core86 [0x81, 0xE9, 0x10, 0x00] = some (.x86AddR16Imm16 .AX 0x10, 4) := by decide

theorem test_word_x10 : encode (.x86SubR8Imm8 .AL 0x10) = some [0x80, 0xE8, 0x10] ∧
    decode .core86 [0x80, 0xE8, 0x10] = some (.x86AddR8Imm8 .AL 0x10, 3) := by decide

theorem test_word_x11 : encode (.x86SubR16R16 .SI .DI) = some [0x2B, 0xF7] ∧
    decode .core86 [0x2B, 0xF7] = some (.x86SubR16R16 .AX .AX, 2) := by decide

theorem test_word_x12 : encode (.x86SubR8R8 .AL .AH) = some [0x2A, 0xC4] ∧
    decode .core86 [0x2A, 0xC4] = some (.x86SubR8R8 .AL .AL, 2) := by decide

theorem test_word_x13 : encode (.x86CmpR16Imm16 .BX 5) = some [0x81, 0xFB, 0x05, 0x00] ∧
    decode .core86 [0x81, 0xFB, 0x05, 0x00] = some (.x86AddR16Imm16 .AX 5, 4) := by decide

theorem test_word_x14 : encode (.x86CmpR8Imm8 .BL 5) = some [0x80, 0xFB, 0x05] ∧
    decode .core86 [0x80, 0xFB, 0x05] = some (.x86AddR8Imm8 .AL 5, 3) := by decide

theorem test_word_x15 : encode (.x86CmpR16R16 .CX .AX) = some [0x3B, 0xC8] ∧
    decode .core86 [0x3B, 0xC8] = some (.x86CmpR16R16 .AX .AX, 2) := by decide

theorem test_word_x16 : encode (.x86CmpR8R8 .BH .DL) = some [0x3A, 0xFA] ∧
    decode .core86 [0x3A, 0xFA] = some (.x86CmpR8R8 .AL .AL, 2) := by decide

theorem test_word_x17 : encode (.x86IncR16 .DI) = some [0x47] ∧
    decode .core86 [0x47] = some (.x86IncR16 .DI, 1) := by decide

theorem test_word_x18 : encode (.x86IncR8 .AH) = some [0xFE, 0xC4] ∧
    decode .core86 [0xFE, 0xC4] = some (.x86IncR8 .AL, 2) := by decide

theorem test_word_x19 : encode (.x86DecR16 .CX) = some [0x49] ∧
    decode .core86 [0x49] = some (.x86DecR16 .CX, 1) := by decide

theorem test_word_x20 : encode (.x86DecR8 .CL) = some [0xFE, 0xC9] ∧
    decode .core86 [0xFE, 0xC9] = some (.x86IncR8 .AL, 2) := by decide

theorem test_word_x21 : encode (.x86AndR16Imm16 .AX 0x0F0F) = some [0x81, 0xE0, 0x0F, 0x0F] ∧
    decode .core86 [0x81, 0xE0, 0x0F, 0x0F] = some (.x86AddR16Imm16 .AX 0x0F0F, 4) := by decide

theorem test_word_x22 : encode (.x86AndR8Imm8 .AH 0x0F) = some [0x80, 0xE4, 0x0F] ∧
    decode .core86 [0x80, 0xE4, 0x0F] = some (.x86AddR8Imm8 .AL 0x0F, 3) := by decide

theorem test_word_x23 : encode (.x86AndR16R16 .AX .BX) = some [0x23, 0xC3] ∧
    decode .core86 [0x23, 0xC3] = some (.x86AndR16R16 .AX .AX, 2) := by decide

theorem test_word_x24 : encode (.x86AndR8R8 .AL .BL) = some [0x22, 0xC3] ∧
    decode .core86 [0x22, 0xC3] = some (.x86AndR8R8 .AL .AL, 2) := by decide

theorem test_word_x25 : encode (.x86OrR16Imm16 .CX 0x8001) = some [0x81, 0xC9, 0x01, 0x80] ∧
    decode .core86 [0x81, 0xC9, 0x01, 0x80] = some (.x86AddR16Imm16 .AX 0x8001, 4) := by decide

theorem test_word_x26 : encode (.x86OrR8Imm8 .BL 1) = some [0x80, 0xCB, 0x01] ∧
    decode .core86 [0x80, 0xCB, 0x01] = some (.x86AddR8Imm8 .AL 1, 3) := by decide

theorem test_word_x27 : encode (.x86OrR16R16 .AX .AX) = some [0x0B, 0xC0] ∧
    decode .core86 [0x0B, 0xC0] = some (.x86OrR16R16 .AX .AX, 2) := by decide

theorem test_word_x28 : encode (.x86OrR8R8 .AL .BL) = some [0x0A, 0xC3] ∧
    decode .core86 [0x0A, 0xC3] = some (.x86OrR8R8 .AL .AL, 2) := by decide

theorem test_word_x29 : encode (.x86XorR16Imm16 .AX 0xFFFF) = some [0x81, 0xF0, 0xFF, 0xFF] ∧
    decode .core86 [0x81, 0xF0, 0xFF, 0xFF] = some (.x86AddR16Imm16 .AX 0xFFFF, 4) := by decide

theorem test_word_x30 : encode (.x86XorR8Imm8 .CL 0xAA) = some [0x80, 0xF1, 0xAA] ∧
    decode .core86 [0x80, 0xF1, 0xAA] = some (.x86AddR8Imm8 .AL 0xAA, 3) := by decide

theorem test_word_x31 : encode (.x86XorR16R16 .BX .BX) = some [0x33, 0xDB] ∧
    decode .core86 [0x33, 0xDB] = some (.x86XorR16R16 .AX .AX, 2) := by decide

theorem test_word_x32 : encode (.x86XorR8R8 .AL .BL) = some [0x32, 0xC3] ∧
    decode .core86 [0x32, 0xC3] = some (.x86XorR8R8 .AL .AL, 2) := by decide

theorem test_word_x33 : encode (.x86Jmp 0x0107) = some [0xE9, 0x07, 0x01] ∧
    decode .core86 [0xE9, 0x07, 0x01] = some (.x86Jmp 0x0107, 3) := by decide

theorem test_word_x34 : encode (.x86Je 2) = some [0x74, 0x02] ∧
    decode .core86 [0x74, 0x02] = some (.x86Je 2, 2) := by decide

theorem test_word_x35 : encode (.x86Jz 2) = some [0x74, 0x02] ∧
    decode .core86 [0x74, 0x02] = some (.x86Je 2, 2) := by decide

theorem test_word_x36 : encode (.x86Jne 0) = some [0x75, 0x00] ∧
    decode .core86 [0x75, 0x00] = some (.x86Jne 0, 2) := by decide

theorem test_word_x37 : encode (.x86Jnz 0) = some [0x75, 0x00] ∧
    decode .core86 [0x75, 0x00] = some (.x86Jne 0, 2) := by decide

theorem test_word_x38 : encode .x86Hlt = some [0xF4] ∧
    decode .core86 [0xF4] = some (.x86Hlt, 1) := by decide

theorem test_word_y1 : encode (.i51MovAImm 3) = some [0x74, 0x03] ∧
    decode .core51 [0x74, 0x03] = some (.i51MovAImm 3, 2) := by decide

theorem test_word_y2 : encode (.i51MovBImm 4) = some [0x75, 0xF0, 0x04] ∧
    decode .core51 [0x75, 0xF0, 0x04] = some (.i51MovBImm 4, 3) := by decide

theorem test_word_y3 : encode (.i51MovRnImm .R7 0xFF) = some [0x7F, 0xFF] ∧
    decode .core51 [0x7F, 0xFF] = some (.i51MovRnImm .R7 0xFF, 2) := by decide

theorem test_word_y4 : encode (.i51MovDptrImm 0x8500) = some [0x90, 0x85, 0x00] ∧
    decode .core51 [0x90, 0x85, 0x00] = some (.i51MovDptrImm 0x8500, 3) := by decide

theorem test_word_y5 : encode (.i51MovARn .R3) = some [0xEB] ∧
    decode .core51 [0xEB] = some (.i51MovARn .R3, 1) := by decide

theorem test_word_y6 : encode (.i51MovRnA .R0) = some [0xF8] ∧
    decode .core51 [0xF8] = some (.i51MovRnA .R0, 1) := by decide

theorem test_word_y7 : encode .i51MovAB = some [0xE5, 0xF0] ∧
    decode .core51 [0xE5, 0xF0] = some (.i51MovAB, 2) := by decide

theorem test_word_y8 : encode .i51MovBA = some [0xF5, 0xF0] ∧
    decode .core51 [0xF5, 0xF0] = some (.i51MovBA, 2) := by decide

theorem test_word_y9 : encode (.i51MovBRn .R5) = some [0x8D, 0xF0] ∧
    decode .core51 [0x8D, 0xF0] = some (.i51MovBRn .R5, 2) := by decide

theorem test_word_y10 : encode (.i51MovRnB .R7) = some [0xAF, 0xF0] ∧
    decode .core51 [0xAF, 0xF0] = some (.i51MovRnB .R7, 2) := by decide

theorem test_word_y11 : encode .i51MovxADptr = some [0xE0] ∧
    decode .core51 [0xE0] = some (.i51MovxADptr, 1) := by decide

theorem test_word_y12 : encode .i51MovxDptrA = some [0xF0] ∧
    decode .core51 [0xF0] = some (.i51MovxDptrA, 1) := by decide

theorem test_word_y13 : encode (.i51MovxARi .R1) = some [0xE3] ∧
    decode .core51 [0xE3] = some (.i51MovxARi .R1, 1) := by decide

theorem test_word_y14 : encode (.i51MovxRiA .R0) = some [0xF2] ∧
    decode .core51 [0xF2] = some (.i51MovxRiA .R0, 1) := by decide

theorem test_word_y15 : encode .i51IncA = some [0x04] ∧
    decode .core51 [0x04] = some (.i51IncA, 1) := by decide

theorem test_word_y16 : encode .i51IncB = some [0x05, 0xF0] ∧
    decode .core51 [0x05, 0xF0] = some (.i51IncB, 2) := by decide

theorem test_word_y17 : encode (.i51IncRn .R7) = some [0x0F] ∧
    decode .core51 [0x0F] = some (.i51IncRn .R7, 1) := by decide

theorem test_word_y18 : encode .i51IncDptr = some [0xA3] ∧
    decode .core51 [0xA3] = some (.i51IncDptr, 1) := by decide

theorem test_word_y19 : encode .i51DecA = some [0x14] ∧
    decode .core51 [0x14] = some (.i51DecA, 1) := by decide

theorem test_word_y20 : encode .i51DecB = some [0x15, 0xF0] ∧
    decode .core51 [0x15, 0xF0] = some (.i51DecB, 2) := by decide

theorem test_word_y21 : encode (.i51DecRn .R7) = some [0x1F] ∧
    decode .core51 [0x1F] = some (.i51DecRn .R7, 1) := by decide

theorem test_word_y22 : encode .i51DecDptr = some [0xA5] ∧
    decode .core51 [0xA5] = some (.i51DecDptr, 1) := by decide

theorem test_word_y23 : encode .i51MulAB = some [0xA4] ∧
    decode .core51 [0xA4] = some (.i51MulAB, 1) := by decide

theorem test_word_y24 : encode .i51DivAB = some [0x84] ∧
    decode .core51 [0x84] = some (.i51DivAB, 1) := by decide

theorem test_word_y25 : encode .i51RlcA = some [0x33] ∧
    decode .core51 [0x33] = some (.i51RlcA, 1) := by decide

theorem test_word_y26 : encode .i51RrcA = some [0x13] ∧
    decode .core51 [0x13] = some (.i51RrcA, 1) := by decide

theorem test_word_y27 : encode .i51ClrC = some [0xC3] ∧
    decode .core51 [0xC3] = some (.i51ClrC, 1) := by decide

theorem test_word_y28 : encode .i51SetbC = some [0xD3] ∧
    decode .core51 [0xD3] = some (.i51SetbC, 1) := by decide

theorem test_word_y29 : encode .i51CplC = some [0xB3] ∧
    decode .core51 [0xB3] = some (.i51CplC, 1) := by decide

theorem test_word_y30 : encode (.i51Sjmp 0x10) = some [0x80, 0x10] ∧
    decode .core51 [0x80, 0x10] = some (.i51Sjmp 0x10, 2) := by decide

theorem test_word_y31 : encode (.i51Jz 0) = some [0x60, 0x00] ∧
    decode .core51 [0x60, 0x00] = some (.i51Jz 0, 2) := by decide

theorem test_word_y32 : encode (.i51Jnz 0xFF) = some [0x70, 0xFF] ∧
    decode .core51 [0x70, 0xFF] = some (.i51Jnz 0xFF, 2) := by decide

theorem test_word_y33 : encode (.i51Jc 7) = some [0x40, 0x07] ∧
    decode .core51 [0x40, 0x07] = some (.i51Jc 7, 2) := by decide

theorem test_word_y34 : encode (.i51Jnc 1) = some [0x50, 0x01] ∧
    decode .core51 [0x50, 0x01] = some (.i51Jnc 1, 2) := by decide

/-! ### The decoder on buffers (vectors V-DEC) -/

/-- What the lines of a disassembly stand for. -/
def linesOf (a : Arch) (bytes : List Byte) : List (Nat × Option Instr) :=
  (disassemble (optab a) bytes).map fun l => (l.address, decodedInstr a l.decoded)

/-- V-DEC-7: a byte in no entry. -/
theorem test_unknown_byte : linesOf .core86 [0x90, 0xF4] = [(0, none), (1, some .x86Hlt)] := by decide

/-- V-DEC-8: the buffer ends inside the instruction. -/
theorem test_truncated_tail : linesOf .core86 [0xB8, 0x01] = [(0, none), (1, none)] := by decide

/-- V-DEC-12: the second lead byte is not compared. -/
theorem test_second_byte_unread : linesOf .core51 [0x75, 0x00, 0x04] = [(0, some (.i51MovBImm 4))] := by decide

/-- Table words, numbered as the opcode table numbers them: HLT, MOV CX, #0x1234, MOV DPTR, #0x8500. -/
theorem test_table_words : decodeTableWord 8 0xF4 = some .x86Hlt ∧
    decodeTableWord 24 0x1234B9 = some (.x86MovR16Imm16 .CX 0x1234) ∧
    decodeTableWord 24 0x008590 = some (.i51MovDptrImm 0x8500) := by decide

/-- One step of the reset state with MUL AB in its listing runs it: OV and C clear, OK logged. -/
theorem test_step_runs_word :
    (match step (State.reset.withFetchWord 8 0xA4) with
      | .next t => (t.session.log, t.session.cursor, t.session.selected)
      | _ => ([], 0, .core86)) = ([.ok], 1, .core51) := by decide

/-- The row ADD AX, #1: 81 C0 01 00, assembled from its line (R99). -/
theorem test_assemble_line :
    (match assemble .core86 optab86 "ADD AX, #1 ; one".toList with
      | .ok out => assemblyBytes out
      | .error _ => []) = [0x81, 0xC0, 0x01, 0x00] := by decide

/-! ### Execute-only forms and ill-formed terms -/

theorem test_form_x86MovForm : resolve .core86 { mnemonic := tok "MOV", operands := [tok "AL", tok "BX"] } = .ok (.x86MovForm (.r8 .AL) (.r16 .BX)) ∧
    encode (.x86MovForm (.r8 .AL) (.r16 .BX)) = none ∧ wellFormed (.x86MovForm (.r8 .AL) (.r16 .BX)) = true := by decide

theorem test_form_x86AddForm : resolve .core86 { mnemonic := tok "ADD", operands := [tok "AX", tok "BL"] } = .ok (.x86AddForm (.r16 .AX) (.r8 .BL)) ∧
    encode (.x86AddForm (.r16 .AX) (.r8 .BL)) = none ∧ wellFormed (.x86AddForm (.r16 .AX) (.r8 .BL)) = true := by decide

theorem test_form_x86SubForm : resolve .core86 { mnemonic := tok "SUB", operands := [tok "AL", tok "#256"] } = .ok (.x86SubForm (.r8 .AL) (.lit 256)) ∧
    encode (.x86SubForm (.r8 .AL) (.lit 256)) = none ∧ wellFormed (.x86SubForm (.r8 .AL) (.lit 256)) = true := by decide

theorem test_form_x86CmpForm : resolve .core86 { mnemonic := tok "CMP", operands := [tok "5", tok "AX"] } = .ok (.x86CmpForm (.lit 5) (.r16 .AX)) ∧
    encode (.x86CmpForm (.lit 5) (.r16 .AX)) = none ∧ wellFormed (.x86CmpForm (.lit 5) (.r16 .AX)) = true := by decide

theorem test_form_x86AndForm : resolve .core86 { mnemonic := tok "AND", operands := [tok "AX", tok "BL"] } = .ok (.x86AndForm (.r16 .AX) (.r8 .BL)) ∧
    encode (.x86AndForm (.r16 .AX) (.r8 .BL)) = none ∧ wellFormed (.x86AndForm (.r16 .AX) (.r8 .BL)) = true := by decide

theorem test_form_x86OrForm : resolve .core86 { mnemonic := tok "OR", operands := [tok "AX", tok "65536"] } = .ok (.x86OrForm (.r16 .AX) (.lit 65536)) ∧
    encode (.x86OrForm (.r16 .AX) (.lit 65536)) = none ∧ wellFormed (.x86OrForm (.r16 .AX) (.lit 65536)) = true := by decide

theorem test_form_x86XorForm : resolve .core86 { mnemonic := tok "XOR", operands := [tok "BH", tok "SI"] } = .ok (.x86XorForm (.r8 .BH) (.r16 .SI)) ∧
    encode (.x86XorForm (.r8 .BH) (.r16 .SI)) = none ∧ wellFormed (.x86XorForm (.r8 .BH) (.r16 .SI)) = true := by decide

theorem test_form_x86JmpLit : resolve .core86 { mnemonic := tok "JMP", operands := [tok "70000"] } = .ok (.x86JmpLit 70000) ∧
    encode (.x86JmpLit 70000) = none ∧ wellFormed (.x86JmpLit 70000) = true := by decide

theorem test_form_x86JeLit : resolve .core86 { mnemonic := tok "JE", operands := [tok "256"] } = .ok (.x86JeLit 256) ∧
    encode (.x86JeLit 256) = none ∧ wellFormed (.x86JeLit 256) = true := by decide

theorem test_form_x86JzLit : resolve .core86 { mnemonic := tok "JZ", operands := [tok "256"] } = .ok (.x86JzLit 256) ∧
    encode (.x86JzLit 256) = none ∧ wellFormed (.x86JzLit 256) = true := by decide

theorem test_form_x86JneLit : resolve .core86 { mnemonic := tok "JNE", operands := [tok "256"] } = .ok (.x86JneLit 256) ∧
    encode (.x86JneLit 256) = none ∧ wellFormed (.x86JneLit 256) = true := by decide

theorem test_form_x86JnzLit : resolve .core86 { mnemonic := tok "JNZ", operands := [tok "256"] } = .ok (.x86JnzLit 256) ∧
    encode (.x86JnzLit 256) = none ∧ wellFormed (.x86JnzLit 256) = true := by decide

theorem test_form_x86Div : resolve .core86 { mnemonic := tok "DIV", operands := [tok "BX"] } = .ok .x86Div ∧
    encode .x86Div = none ∧ wellFormed .x86Div = true := by decide

theorem test_form_i51MovForm : resolve .core51 { mnemonic := tok "MOV", operands := [tok "R1", tok "R2"] } = .ok (.i51MovForm (.R .R1) (.loc (.R .R2))) ∧
    encode (.i51MovForm (.R .R1) (.loc (.R .R2))) = none ∧ wellFormed (.i51MovForm (.R .R1) (.loc (.R .R2))) = true := by decide

theorem test_form_i51MovDptrLit : resolve .core51 { mnemonic := tok "MOV", operands := [tok "DPTR", tok "#12345"] } = .ok (.i51MovDptrLit 0x12345) ∧
    encode (.i51MovDptrLit 0x12345) = none ∧ wellFormed (.i51MovDptrLit 0x12345) = true := by decide

theorem test_form_i51SjmpLit : resolve .core51 { mnemonic := tok "SJMP", operands := [tok "1FF"] } = .ok (.i51SjmpLit 0x1FF) ∧
    encode (.i51SjmpLit 0x1FF) = none ∧ wellFormed (.i51SjmpLit 0x1FF) = true := by decide

theorem test_form_i51JzLit : resolve .core51 { mnemonic := tok "JZ", operands := [tok "100"] } = .ok (.i51JzLit 256) ∧
    encode (.i51JzLit 256) = none ∧ wellFormed (.i51JzLit 256) = true := by decide

theorem test_form_i51JnzLit : resolve .core51 { mnemonic := tok "JNZ", operands := [tok "100"] } = .ok (.i51JnzLit 256) ∧
    encode (.i51JnzLit 256) = none ∧ wellFormed (.i51JnzLit 256) = true := by decide

theorem test_form_i51JcLit : resolve .core51 { mnemonic := tok "JC", operands := [tok "100"] } = .ok (.i51JcLit 256) ∧
    encode (.i51JcLit 256) = none ∧ wellFormed (.i51JcLit 256) = true := by decide

theorem test_form_i51JncLit : resolve .core51 { mnemonic := tok "JNC", operands := [tok "100"] } = .ok (.i51JncLit 256) ∧
    encode (.i51JncLit 256) = none ∧ wellFormed (.i51JncLit 256) = true := by decide

theorem test_illformed_x86MovForm : wellFormed (.x86MovForm (.r16 .AX) (.lit 65535)) = false := by decide

theorem test_illformed_x86AddForm : wellFormed (.x86AddForm (.r8 .AL) (.r8 .BL)) = false := by decide

theorem test_illformed_x86SubForm : wellFormed (.x86SubForm (.r8 .AL) (.lit 255)) = false := by decide

theorem test_illformed_x86CmpForm : wellFormed (.x86CmpForm (.r16 .AX) (.r16 .BX)) = false := by decide

theorem test_illformed_x86AndForm : wellFormed (.x86AndForm (.r16 .AX) (.r16 .AX)) = false := by decide

theorem test_illformed_x86OrForm : wellFormed (.x86OrForm (.r8 .BH) (.lit 0)) = false := by decide

theorem test_illformed_x86XorForm : wellFormed (.x86XorForm (.r16 .SI) (.lit 1)) = false := by decide

theorem test_illformed_x86JmpLit : wellFormed (.x86JmpLit 65535) = false := by decide

theorem test_illformed_x86JeLit : wellFormed (.x86JeLit 255) = false := by decide

theorem test_illformed_x86JzLit : wellFormed (.x86JzLit 255) = false := by decide

theorem test_illformed_x86JneLit : wellFormed (.x86JneLit 255) = false := by decide

theorem test_illformed_x86JnzLit : wellFormed (.x86JnzLit 255) = false := by decide

theorem test_illformed_i51MovForm : wellFormed (.i51MovForm .A (.imm 255)) = false := by decide

theorem test_illformed_i51MovDptrLit : wellFormed (.i51MovDptrLit 65535) = false := by decide

theorem test_illformed_i51SjmpLit : wellFormed (.i51SjmpLit 255) = false := by decide

theorem test_illformed_i51JzLit : wellFormed (.i51JzLit 255) = false := by decide

theorem test_illformed_i51JnzLit : wellFormed (.i51JnzLit 255) = false := by decide

theorem test_illformed_i51JcLit : wellFormed (.i51JcLit 255) = false := by decide

theorem test_illformed_i51JncLit : wellFormed (.i51JncLit 255) = false := by decide

/-! ### One instruction -/

/-- V-86-1: `MOV AX, #10`. -/
theorem test_v_86_1 : let d := run86 {} Core86.initial "MOV AX, #10"
    d.AX = 0x000A ∧
    [d.flags.CF, d.flags.ZF, d.flags.SF, d.flags.PF, d.flags.OF, d.flags.AF] = [false, false, false, false, false, false] := by decide

/-- V-86-2: `MOV AX, BX`. -/
theorem test_v_86_2 : let d := run86 {} { Core86.initial with BX := 0x1234 } "MOV AX, BX"
    d.AX = 0x1234 ∧ d.BX = 0x1234 ∧
    [d.flags.CF, d.flags.ZF, d.flags.SF, d.flags.PF, d.flags.OF, d.flags.AF] = [false, false, false, false, false, false] := by decide

/-- V-86-3: `MOV AL, #0xFF`. -/
theorem test_v_86_3 : let d := run86 {} { Core86.initial with AX := 0x1234 } "MOV AL, #0xFF"
    d.AX = 0x12FF ∧
    [d.flags.CF, d.flags.ZF, d.flags.SF, d.flags.PF, d.flags.OF, d.flags.AF] = [false, false, false, false, false, false] := by decide

/-- V-86-4: `MOV AH, #0`. -/
theorem test_v_86_4 : let d := run86 {} { Core86.initial with AX := 0x1234 } "MOV AH, #0"
    d.AX = 0x0034 ∧
    [d.flags.CF, d.flags.ZF, d.flags.SF, d.flags.PF, d.flags.OF, d.flags.AF] = [false, false, false, false, false, false] := by decide

/-- V-86-5: `MOV AL, BX`. -/
theorem test_v_86_5 : let d := run86 {} { Core86.initial with BX := 0xABCD } "MOV AL, BX"
    d.AX = 0x00CD ∧ d.BX = 0xABCD ∧
    [d.flags.CF, d.flags.ZF, d.flags.SF, d.flags.PF, d.flags.OF, d.flags.AF] = [false, false, false, false, false, false] := by decide

/-- V-86-6: `MOV AX, BL`. -/
theorem test_v_86_6 : let d := run86 {} { Core86.initial with BX := 0x00CD } "MOV AX, BL"
    d.AX = 0x00CD ∧ d.BX = 0x00CD ∧
    [d.flags.CF, d.flags.ZF, d.flags.SF, d.flags.PF, d.flags.OF, d.flags.AF] = [false, false, false, false, false, false] := by decide

/-- V-86-7: `MOV AX, #0`. -/
theorem test_v_86_7 : let d := run86 {} { Core86.initial with AX := 0xFFFF, flags := { Flags86.clear with ZF := true, CF := true } } "MOV AX, #0"
    d.AX = 0x0000 ∧
    [d.flags.CF, d.flags.ZF, d.flags.SF, d.flags.PF, d.flags.OF, d.flags.AF] = [true, true, false, false, false, false] := by decide

/-- V-86-10: `MOV DI, SI`. -/
theorem test_v_86_10 : let d := run86 {} { Core86.initial with SI := 0x0102 } "MOV DI, SI"
    d.DI = 0x0102 ∧ d.SI = 0x0102 ∧
    [d.flags.CF, d.flags.ZF, d.flags.SF, d.flags.PF, d.flags.OF, d.flags.AF] = [false, false, false, false, false, false] := by decide

/-- V-86-11: `ADD AX, BX`. -/
theorem test_v_86_11 : let d := run86 {} { Core86.initial with AX := 0x000A, BX := 0x0014 } "ADD AX, BX"
    d.AX = 0x001E ∧ d.BX = 0x0014 ∧
    [d.flags.CF, d.flags.ZF, d.flags.SF, d.flags.PF] = [false, false, false, true] := by decide

/-- V-86-12: `ADD AX, #1`. -/
theorem test_v_86_12 : let d := run86 {} { Core86.initial with AX := 0xFFFF } "ADD AX, #1"
    d.AX = 0x0000 ∧
    [d.flags.CF, d.flags.ZF, d.flags.SF, d.flags.PF] = [true, true, false, true] := by decide

/-- V-86-13: `ADD AX, #1`. -/
theorem test_v_86_13 : let d := run86 {} { Core86.initial with AX := 0x7FFF } "ADD AX, #1"
    d.AX = 0x8000 ∧
    [d.flags.CF, d.flags.ZF, d.flags.SF, d.flags.PF] = [false, false, true, true] := by decide

/-- V-86-14: `ADD AL, BL`. -/
theorem test_v_86_14 : let d := run86 {} { Core86.initial with AX := 0x12FF, BX := 0x0001 } "ADD AL, BL"
    d.AX = 0x1200 ∧ d.BX = 0x0001 ∧
    [d.flags.CF, d.flags.ZF, d.flags.SF, d.flags.PF] = [true, true, false, true] := by decide

/-- V-86-15: `ADD AL, #1`. -/
theorem test_v_86_15 : let d := run86 {} { Core86.initial with AX := 0x00FF } "ADD AL, #1"
    d.AX = 0x0000 ∧
    [d.flags.CF, d.flags.ZF, d.flags.SF, d.flags.PF] = [false, false, false, true] := by decide

/-- V-86-16: `ADD AL, BX`. -/
theorem test_v_86_16 : let d := run86 {} { Core86.initial with AX := 0x00F0, BX := 0x0110 } "ADD AL, BX"
    d.AX = 0x0000 ∧ d.BX = 0x0110 ∧
    [d.flags.CF, d.flags.ZF, d.flags.SF, d.flags.PF] = [false, false, false, true] := by decide

/-- V-86-17: `SUB AX, #5`. -/
theorem test_v_86_17 : let d := run86 {} { Core86.initial with AX := 0x0005 } "SUB AX, #5"
    d.AX = 0x0000 ∧
    [d.flags.CF, d.flags.ZF, d.flags.SF, d.flags.PF] = [false, true, false, true] := by decide

/-- V-86-18: `SUB AX, BX`. -/
theorem test_v_86_18 : let d := run86 {} { Core86.initial with AX := 0x0003, BX := 0x0005 } "SUB AX, BX"
    d.AX = 0xFFFE ∧ d.BX = 0x0005 ∧
    [d.flags.CF, d.flags.ZF, d.flags.SF, d.flags.PF] = [true, false, true, false] := by decide

/-- V-86-19: `SUB AL, AH`. -/
theorem test_v_86_19 : let d := run86 {} { Core86.initial with AX := 0x0000 } "SUB AL, AH"
    d.AX = 0x0000 ∧
    [d.flags.CF, d.flags.ZF, d.flags.SF, d.flags.PF] = [false, true, false, true] := by decide

/-- V-86-20: `SUB AL, AH`. -/
theorem test_v_86_20 : let d := run86 {} { Core86.initial with AX := 0x0100 } "SUB AL, AH"
    d.AX = 0x01FF ∧
    [d.flags.CF, d.flags.ZF, d.flags.SF, d.flags.PF] = [true, false, true, true] := by decide

/-- V-86-21: `SUB AX, #1`. -/
theorem test_v_86_21 : let d := run86 {} { Core86.initial with AX := 0x8000 } "SUB AX, #1"
    d.AX = 0x7FFF ∧
    [d.flags.CF, d.flags.ZF, d.flags.SF, d.flags.PF] = [false, false, false, true] := by decide

/-- V-86-22: `CMP AX, #5`. -/
theorem test_v_86_22 : let d := run86 {} { Core86.initial with AX := 0x0005 } "CMP AX, #5"
    d.AX = 0x0005 ∧
    [d.flags.CF, d.flags.ZF, d.flags.SF, d.flags.PF] = [false, true, false, true] := by decide

/-- V-86-23: `CMP AX, #6`. -/
theorem test_v_86_23 : let d := run86 {} { Core86.initial with AX := 0x0005 } "CMP AX, #6"
    d.AX = 0x0005 ∧
    [d.flags.CF, d.flags.ZF, d.flags.SF, d.flags.PF] = [true, false, true, true] := by decide

/-- V-86-24: `CMP AL, #0x41`. -/
theorem test_v_86_24 : let d := run86 {} { Core86.initial with AX := 0x0041 } "CMP AL, #0x41"
    d.AX = 0x0041 ∧
    [d.flags.CF, d.flags.ZF, d.flags.SF, d.flags.PF] = [false, true, false, true] := by decide

/-- V-86-25: `CMP 5, 5`. -/
theorem test_v_86_25 : let d := run86 {} Core86.initial "CMP 5, 5"
    d.AX = 0 ∧
    [d.flags.CF, d.flags.ZF, d.flags.SF, d.flags.PF] = [false, true, false, true] := by decide

/-- V-86-26: `INC AX`. -/
theorem test_v_86_26 : let d := run86 {} { Core86.initial with AX := 0xFFFF } "INC AX"
    d.AX = 0x0000 ∧
    [d.flags.ZF, d.flags.SF, d.flags.PF] = [true, false, true] := by decide

/-- V-86-27: `INC AL`. -/
theorem test_v_86_27 : let d := run86 {} { Core86.initial with AX := 0x12FF } "INC AL"
    d.AX = 0x1200 ∧
    [d.flags.ZF, d.flags.SF, d.flags.PF] = [true, false, true] := by decide

/-- V-86-28: `DEC CX`. -/
theorem test_v_86_28 : let d := run86 {} { Core86.initial with CX := 0x0003 } "DEC CX"
    d.CX = 0x0002 ∧
    [d.flags.ZF, d.flags.SF, d.flags.PF] = [false, false, false] := by decide

/-- V-86-29: `DEC CX`. -/
theorem test_v_86_29 : let d := run86 {} { Core86.initial with CX := 0x0001 } "DEC CX"
    d.CX = 0x0000 ∧
    [d.flags.ZF, d.flags.SF, d.flags.PF] = [true, false, true] := by decide

/-- V-86-31: `DEC BH`. -/
theorem test_v_86_31 : let d := run86 {} { Core86.initial with BX := 0x0100 } "DEC BH"
    d.BX = 0x0000 ∧
    [d.flags.ZF, d.flags.SF, d.flags.PF] = [true, false, true] := by decide

/-- V-86-32: `AND AX, BX`. -/
theorem test_v_86_32 : let d := run86 {} { Core86.initial with AX := 0x00FF, BX := 0x0F0F, flags := { Flags86.clear with CF := true, OF := true } } "AND AX, BX"
    d.AX = 0x000F ∧ d.BX = 0x0F0F ∧
    [d.flags.CF, d.flags.ZF, d.flags.SF, d.flags.PF, d.flags.OF] = [false, false, false, true, false] := by decide

/-- V-86-33: `AND AX, #0x0F0F`. -/
theorem test_v_86_33 : let d := run86 {} { Core86.initial with AX := 0xF0F0 } "AND AX, #0x0F0F"
    d.AX = 0x0000 ∧
    [d.flags.CF, d.flags.ZF, d.flags.SF, d.flags.PF, d.flags.OF] = [false, true, false, true, false] := by decide

/-- V-86-34: `OR AX, BX`. -/
theorem test_v_86_34 : let d := run86 {} { Core86.initial with AX := 0x8000, BX := 0x0001 } "OR AX, BX"
    d.AX = 0x8001 ∧ d.BX = 0x0001 ∧
    [d.flags.CF, d.flags.ZF, d.flags.SF, d.flags.PF, d.flags.OF] = [false, false, true, false, false] := by decide

/-- V-86-35: `OR AX, AX`. -/
theorem test_v_86_35 : let d := run86 {} { Core86.initial with AX := 0x0000 } "OR AX, AX"
    d.AX = 0x0000 ∧
    [d.flags.CF, d.flags.ZF, d.flags.SF, d.flags.PF, d.flags.OF] = [false, true, false, true, false] := by decide

/-- V-86-36: `XOR AX, AX`. -/
theorem test_v_86_36 : let d := run86 {} { Core86.initial with AX := 0x1234, flags := { Flags86.clear with CF := true } } "XOR AX, AX"
    d.AX = 0x0000 ∧
    [d.flags.CF, d.flags.ZF, d.flags.SF, d.flags.PF, d.flags.OF] = [false, true, false, true, false] := by decide

/-- V-86-37: `XOR AL, BL`. -/
theorem test_v_86_37 : let d := run86 {} { Core86.initial with AX := 0x00AA, BX := 0x00FF } "XOR AL, BL"
    d.AX = 0x0055 ∧ d.BX = 0x00FF ∧
    [d.flags.CF, d.flags.ZF, d.flags.SF, d.flags.PF, d.flags.OF] = [false, false, false, true, false] := by decide

/-- V-86C-1: `JMP 3`. -/
theorem test_v_86c_1 : let d := run86 {} Core86.initial "JMP 3"
    d.IP = 0x0003 ∧
    [d.flags.CF, d.flags.ZF, d.flags.SF, d.flags.PF, d.flags.OF, d.flags.AF] = [false, false, false, false, false, false] := by decide

/-- V-86C-2: `JMP 70000`. -/
theorem test_v_86c_2 : let d := run86 {} Core86.initial "JMP 70000"
    d.IP = 0x1170 ∧
    [d.flags.CF, d.flags.ZF, d.flags.SF, d.flags.PF, d.flags.OF, d.flags.AF] = [false, false, false, false, false, false] := by decide

/-- V-86C-3: `JE 2`. -/
theorem test_v_86c_3 : let d := run86 {} { Core86.initial with flags := { Flags86.clear with ZF := true } } "JE 2"
    d.IP = 0x0002 ∧
    [d.flags.CF, d.flags.ZF, d.flags.SF, d.flags.PF, d.flags.OF, d.flags.AF] = [false, true, false, false, false, false] := by decide

/-- V-86C-4: `JE 2`. -/
theorem test_v_86c_4 : let d := run86 {} { Core86.initial with IP := 0x0009, flags := { Flags86.clear with ZF := false } } "JE 2"
    d.IP = 0x0009 ∧
    [d.flags.CF, d.flags.ZF, d.flags.SF, d.flags.PF, d.flags.OF, d.flags.AF] = [false, false, false, false, false, false] := by decide

/-- V-86C-5: `JNZ 2`. -/
theorem test_v_86c_5 : let d := run86 {} { Core86.initial with IP := 0x0009, flags := { Flags86.clear with ZF := true } } "JNZ 2"
    d.IP = 0x0009 ∧
    [d.flags.CF, d.flags.ZF, d.flags.SF, d.flags.PF, d.flags.OF, d.flags.AF] = [false, true, false, false, false, false] := by decide

/-- V-86C-6: `JNE 0x10`. -/
theorem test_v_86c_6 : let d := run86 {} { Core86.initial with flags := { Flags86.clear with ZF := false } } "JNE 0x10"
    d.IP = 0x0010 ∧
    [d.flags.CF, d.flags.ZF, d.flags.SF, d.flags.PF, d.flags.OF, d.flags.AF] = [false, false, false, false, false, false] := by decide

/-- V-86C-7: `JZ 0FFH`. -/
theorem test_v_86c_7 : let d := run86 {} { Core86.initial with flags := { Flags86.clear with ZF := true } } "JZ 0FFH"
    d.IP = 0x00FF ∧
    [d.flags.CF, d.flags.ZF, d.flags.SF, d.flags.PF, d.flags.OF, d.flags.AF] = [false, true, false, false, false, false] := by decide

/-- V-86C-8: `HLT`. -/
theorem test_v_86c_8 : let d := run86 {} Core86.initial "HLT"
    d.halted = true ∧
    [d.flags.CF, d.flags.ZF, d.flags.SF, d.flags.PF, d.flags.OF, d.flags.AF] = [false, false, false, false, false, false] := by decide

/-- V-86C-9: `DIV BX`. -/
theorem test_v_86c_9 : let d := run86 {} { Core86.initial with AX := 0x0064, BX := 0x0000 } "DIV BX"
    d.AX = 0x0064 ∧ d.BX = 0x0000 ∧
    [d.flags.CF, d.flags.ZF, d.flags.SF, d.flags.PF, d.flags.OF, d.flags.AF] = [false, false, false, false, false, false] := by decide

/-- V-86C-10: `INC AX`. -/
theorem test_v_86c_10 : let d := run86 {} { Core86.initial with halted := true, AX := 0x0001 } "INC AX"
    d.AX = 0x0002 ∧
    [d.flags.ZF, d.flags.SF, d.flags.PF] = [false, false, false] := by decide

/-- V-86C-17: `HLT`. -/
theorem test_v_86c_17 : let d := run86 { ipStep := 1 } { Core86.initial with IP := 0xFFFF } "HLT"
    d.IP = 0x0000 ∧ d.halted = true ∧
    [d.flags.CF, d.flags.ZF, d.flags.SF, d.flags.PF, d.flags.OF, d.flags.AF] = [false, false, false, false, false, false] := by decide

/-- V-51D-1: `MOV A, #03H`. -/
theorem test_v_51d_1 : let d := run51 {} Core51.initial "MOV A, #03H"
    d.A = 0x03 ∧ [d.flags.C, d.flags.AC, d.flags.OV, d.flags.P] = [false, false, false, false] := by decide

/-- V-51D-2: `MOV A, #10`. -/
theorem test_v_51d_2 : let d := run51 {} Core51.initial "MOV A, #10"
    d.A = 0x10 ∧ [d.flags.C, d.flags.AC, d.flags.OV, d.flags.P] = [false, false, false, true] := by decide

/-- V-51D-4: `MOV B, #04H`. -/
theorem test_v_51d_4 : let d := run51 {} Core51.initial "MOV B, #04H"
    d.B = 0x04 ∧ [d.flags.C, d.flags.AC, d.flags.OV, d.flags.P] = [false, false, false, false] := by decide

/-- V-51D-5: `MOV R7, #FF`. -/
theorem test_v_51d_5 : let d := run51 {} Core51.initial "MOV R7, #FF"
    d.R7 = 0xFF ∧ [d.flags.C, d.flags.AC, d.flags.OV, d.flags.P] = [false, false, false, false] := by decide

/-- V-51D-6: `MOV R3, A`. -/
theorem test_v_51d_6 : let d := run51 {} { Core51.initial with A := 0x5A } "MOV R3, A"
    d.R3 = 0x5A ∧ d.A = 0x5A ∧ [d.flags.C, d.flags.AC, d.flags.OV, d.flags.P] = [false, false, false, false] := by decide

/-- V-51D-7: `MOV A, R3`. -/
theorem test_v_51d_7 : let d := run51 {} { Core51.initial with R3 := 0x80 } "MOV A, R3"
    d.A = 0x80 ∧ d.R3 = 0x80 ∧ [d.flags.C, d.flags.AC, d.flags.OV, d.flags.P] = [false, false, false, true] := by decide

/-- V-51D-8: `MOV A, B`. -/
theorem test_v_51d_8 : let d := run51 {} { Core51.initial with A := 0x01, B := 0xFE, flags := { C := false, AC := false, OV := false, P := true } } "MOV A, B"
    d.A = 0xFE ∧ d.B = 0xFE ∧ [d.flags.C, d.flags.AC, d.flags.OV, d.flags.P] = [false, false, false, true] := by decide

/-- V-51D-9: `MOV R1, R2`. -/
theorem test_v_51d_9 : let d := run51 {} { Core51.initial with R1 := 0x11, R2 := 0x22 } "MOV R1, R2"
    d.R1 = 0x22 ∧ d.R2 = 0x22 ∧ [d.flags.C, d.flags.AC, d.flags.OV, d.flags.P] = [false, false, false, false] := by decide

/-- V-51D-11: `MOV DPTR, #8500`. -/
theorem test_v_51d_11 : let d := run51 {} Core51.initial "MOV DPTR, #8500"
    d.DPTR = 0x8500 ∧ [d.flags.C, d.flags.AC, d.flags.OV, d.flags.P] = [false, false, false, false] := by decide

/-- V-51D-12: `MOV DPTR, #12345`. -/
theorem test_v_51d_12 : let d := run51 {} Core51.initial "MOV DPTR, #12345"
    d.DPTR = 0x2345 ∧ [d.flags.C, d.flags.AC, d.flags.OV, d.flags.P] = [false, false, false, false] := by decide

/-- V-51D-14: `MOVX A, @DPTR`. -/
theorem test_v_51d_14 : let d := run51 {} { Core51.initial with DPTR := 0x8500, mem := [(0x8500, 0x03)] } "MOVX A, @DPTR"
    d.A = 0x03 ∧ d.DPTR = 0x8500 ∧ [d.flags.C, d.flags.AC, d.flags.OV, d.flags.P] = [false, false, false, false] := by decide

/-- V-51D-15: `MOVX @DPTR, A`. -/
theorem test_v_51d_15 : let d := run51 {} { Core51.initial with DPTR := 0x1234, A := 0xAB, flags := { C := false, AC := false, OV := false, P := true } } "MOVX @DPTR, A"
    d.memRead 0x1234 = 0xAB ∧ d.DPTR = 0x1234 ∧ d.A = 0xAB ∧ [d.flags.C, d.flags.AC, d.flags.OV, d.flags.P] = [false, false, false, true] := by decide

/-- V-51D-16: `MOVX A, @R0`. -/
theorem test_v_51d_16 : let d := run51 {} { Core51.initial with R0 := 0x40, mem := [(0x40, 0x99), (0x4000, 0x11)] } "MOVX A, @R0"
    d.A = 0x99 ∧ d.R0 = 0x40 ∧ [d.flags.C, d.flags.AC, d.flags.OV, d.flags.P] = [false, false, false, false] := by decide

/-- V-51D-17: `MOVX @R1, A`. -/
theorem test_v_51d_17 : let d := run51 {} { Core51.initial with R1 := 0xFF, A := 0x77 } "MOVX @R1, A"
    d.memRead 0xff = 0x77 ∧ d.R1 = 0xFF ∧ d.A = 0x77 ∧ [d.flags.C, d.flags.AC, d.flags.OV, d.flags.P] = [false, false, false, false] := by decide

/-- V-51D-18: `MOVX A, @DPTR`. -/
theorem test_v_51d_18 : let d := run51 {} { Core51.initial with DPTR := 0xFFFF, mem := [(0xffff, 0x01)] } "MOVX A, @DPTR"
    d.A = 0x01 ∧ d.DPTR = 0xFFFF ∧ [d.flags.C, d.flags.AC, d.flags.OV, d.flags.P] = [false, false, false, true] := by decide

/-- V-51D-19: `INC A`. -/
theorem test_v_51d_19 : let d := run51 {} { Core51.initial with A := 0xFF, flags := { C := false, AC := false, OV := false, P := false } } "INC A"
    d.A = 0x00 ∧ [d.flags.C, d.flags.AC, d.flags.OV, d.flags.P] = [false, false, false, false] := by decide

/-- V-51D-20: `DEC A`. -/
theorem test_v_51d_20 : let d := run51 {} { Core51.initial with A := 0x00 } "DEC A"
    d.A = 0xFF ∧ [d.flags.C, d.flags.AC, d.flags.OV, d.flags.P] = [false, false, false, false] := by decide

/-- V-51D-21: `INC B`. -/
theorem test_v_51d_21 : let d := run51 {} { Core51.initial with B := 0xFF } "INC B"
    d.B = 0x00 ∧ [d.flags.C, d.flags.AC, d.flags.OV, d.flags.P] = [false, false, false, false] := by decide

/-- V-51D-22: `DEC R0`. -/
theorem test_v_51d_22 : let d := run51 {} { Core51.initial with R0 := 0x00 } "DEC R0"
    d.R0 = 0xFF ∧ [d.flags.C, d.flags.AC, d.flags.OV, d.flags.P] = [false, false, false, false] := by decide

/-- V-51D-23: `INC R4`. -/
theorem test_v_51d_23 : let d := run51 {} { Core51.initial with R4 := 0x0F } "INC R4"
    d.R4 = 0x10 ∧ [d.flags.C, d.flags.AC, d.flags.OV, d.flags.P] = [false, false, false, false] := by decide

/-- V-51D-24: `INC DPTR`. -/
theorem test_v_51d_24 : let d := run51 {} { Core51.initial with DPTR := 0xFFFF } "INC DPTR"
    d.DPTR = 0x0000 ∧ [d.flags.C, d.flags.AC, d.flags.OV, d.flags.P] = [false, false, false, false] := by decide

/-- V-51D-25: `DEC DPTR`. -/
theorem test_v_51d_25 : let d := run51 {} { Core51.initial with DPTR := 0x0000 } "DEC DPTR"
    d.DPTR = 0xFFFF ∧ [d.flags.C, d.flags.AC, d.flags.OV, d.flags.P] = [false, false, false, false] := by decide

/-- V-51D-26: `INC DPTR`. -/
theorem test_v_51d_26 : let d := run51 {} { Core51.initial with DPTR := 0x84FF } "INC DPTR"
    d.DPTR = 0x8500 ∧ [d.flags.C, d.flags.AC, d.flags.OV, d.flags.P] = [false, false, false, false] := by decide

/-- V-51A-1: `MUL AB`. -/
theorem test_v_51a_1 : let d := run51 {} { Core51.initial with A := 0x03, B := 0x04 } "MUL AB"
    d.A = 0x0C ∧ d.B = 0x00 ∧ [d.flags.C, d.flags.AC, d.flags.OV, d.flags.P] = [false, false, false, false] := by decide

/-- V-51A-2: `MUL AB`. -/
theorem test_v_51a_2 : let d := run51 {} { Core51.initial with A := 0xFF, B := 0xFF } "MUL AB"
    d.A = 0x01 ∧ d.B = 0xFE ∧ [d.flags.C, d.flags.AC, d.flags.OV, d.flags.P] = [false, false, true, true] := by decide

/-- V-51A-6: `DIV AB`. -/
theorem test_v_51a_6 : let d := run51 {} { Core51.initial with A := 0x07, B := 0x00, flags := { C := false, AC := false, OV := false, P := true } } "DIV AB"
    d.A = 0x07 ∧ d.B = 0x00 ∧ [d.flags.C, d.flags.AC, d.flags.OV, d.flags.P] = [false, false, true, true] := by decide

/-- V-51A-7: `DIV AB`. -/
theorem test_v_51a_7 : let d := run51 {} { Core51.initial with A := 0x07, B := 0x00, flags := { C := true, AC := false, OV := false, P := true } } "DIV AB"
    d.A = 0x07 ∧ d.B = 0x00 ∧ [d.flags.C, d.flags.AC, d.flags.OV, d.flags.P] = [true, false, true, true] := by decide

/-- V-51A-12: `RLC A`. -/
theorem test_v_51a_12 : let d := run51 {} { Core51.initial with A := 0x81, flags := { C := false, AC := false, OV := false, P := false } } "RLC A"
    d.A = 0x02 ∧ [d.flags.C, d.flags.AC, d.flags.OV, d.flags.P] = [true, false, false, true] := by decide

/-- V-51A-13: `RLC A`. -/
theorem test_v_51a_13 : let d := run51 {} { Core51.initial with A := 0x81, flags := { C := true, AC := false, OV := false, P := false } } "RLC A"
    d.A = 0x03 ∧ [d.flags.C, d.flags.AC, d.flags.OV, d.flags.P] = [true, false, false, false] := by decide

/-- V-51A-15: `RRC A`. -/
theorem test_v_51a_15 : let d := run51 {} { Core51.initial with A := 0x01, flags := { C := false, AC := false, OV := false, P := true } } "RRC A"
    d.A = 0x00 ∧ [d.flags.C, d.flags.AC, d.flags.OV, d.flags.P] = [true, false, false, false] := by decide

/-- V-51A-16: `RRC A`. -/
theorem test_v_51a_16 : let d := run51 {} { Core51.initial with A := 0x01, flags := { C := true, AC := false, OV := false, P := true } } "RRC A"
    d.A = 0x80 ∧ [d.flags.C, d.flags.AC, d.flags.OV, d.flags.P] = [true, false, false, true] := by decide

/-- V-51A-18: `CLR C`. -/
theorem test_v_51a_18 : let d := run51 {} { Core51.initial with flags := { C := true, AC := false, OV := false, P := false } } "CLR C"
    [d.flags.C, d.flags.AC, d.flags.OV, d.flags.P] = [false, false, false, false] := by decide

/-- V-51A-19: `SETB C`. -/
theorem test_v_51a_19 : let d := run51 {} Core51.initial "SETB C"
    [d.flags.C, d.flags.AC, d.flags.OV, d.flags.P] = [true, false, false, false] := by decide

/-- V-51A-20: `CPL C`. -/
theorem test_v_51a_20 : let d := run51 {} { Core51.initial with flags := { C := true, AC := false, OV := false, P := false } } "CPL C"
    [d.flags.C, d.flags.AC, d.flags.OV, d.flags.P] = [false, false, false, false] := by decide

/-- V-51A-21: `CPL C`. -/
theorem test_v_51a_21 : let d := run51 {} Core51.initial "CPL C"
    [d.flags.C, d.flags.AC, d.flags.OV, d.flags.P] = [true, false, false, false] := by decide

/-- V-51A-22: `SETB C`. -/
theorem test_v_51a_22 : let d := run51 {} { Core51.initial with A := 0x55, flags := { C := false, AC := true, OV := true, P := false } } "SETB C"
    d.A = 0x55 ∧ [d.flags.C, d.flags.AC, d.flags.OV, d.flags.P] = [true, true, true, false] := by decide

/-- V-51C-1: `SJMP 10`. -/
theorem test_v_51c_1 : let d := run51 {} Core51.initial "SJMP 10"
    d.PC = 0x10 ∧ [d.flags.C, d.flags.AC, d.flags.OV, d.flags.P] = [false, false, false, false] := by decide

/-- V-51C-2: `SJMP 1FFH`. -/
theorem test_v_51c_2 : let d := run51 {} Core51.initial "SJMP 1FFH"
    d.PC = 0xFF ∧ [d.flags.C, d.flags.AC, d.flags.OV, d.flags.P] = [false, false, false, false] := by decide

/-- V-51C-4: `JZ 5`. -/
theorem test_v_51c_4 : let d := run51 {} { Core51.initial with A := 0x00 } "JZ 5"
    d.PC = 0x05 ∧ d.A = 0x00 ∧ [d.flags.C, d.flags.AC, d.flags.OV, d.flags.P] = [false, false, false, false] := by decide

/-- V-51C-5: `JZ 5`. -/
theorem test_v_51c_5 : let d := run51 {} { Core51.initial with A := 0x01, PC := 0x09, flags := { C := false, AC := false, OV := false, P := true } } "JZ 5"
    d.A = 0x01 ∧ d.PC = 0x09 ∧ [d.flags.C, d.flags.AC, d.flags.OV, d.flags.P] = [false, false, false, true] := by decide

/-- V-51C-6: `JNZ 5`. -/
theorem test_v_51c_6 : let d := run51 {} { Core51.initial with A := 0x01, flags := { C := false, AC := false, OV := false, P := true } } "JNZ 5"
    d.PC = 0x05 ∧ d.A = 0x01 ∧ [d.flags.C, d.flags.AC, d.flags.OV, d.flags.P] = [false, false, false, true] := by decide

/-- V-51C-7: `JNZ 5`. -/
theorem test_v_51c_7 : let d := run51 {} { Core51.initial with A := 0x00, PC := 0x09 } "JNZ 5"
    d.A = 0x00 ∧ d.PC = 0x09 ∧ [d.flags.C, d.flags.AC, d.flags.OV, d.flags.P] = [false, false, false, false] := by decide

/-- V-51C-8: `JC 7`. -/
theorem test_v_51c_8 : let d := run51 {} { Core51.initial with flags := { C := true, AC := false, OV := false, P := false } } "JC 7"
    d.PC = 0x07 ∧ [d.flags.C, d.flags.AC, d.flags.OV, d.flags.P] = [true, false, false, false] := by decide

/-- V-51C-9: `JC 7`. -/
theorem test_v_51c_9 : let d := run51 {} { Core51.initial with PC := 0x09, flags := { C := false, AC := false, OV := false, P := false } } "JC 7"
    d.PC = 0x09 ∧ [d.flags.C, d.flags.AC, d.flags.OV, d.flags.P] = [false, false, false, false] := by decide

/-- V-51C-10: `JNC 0x20`. -/
theorem test_v_51c_10 : let d := run51 {} { Core51.initial with flags := { C := false, AC := false, OV := false, P := false } } "JNC 0x20"
    d.PC = 0x20 ∧ [d.flags.C, d.flags.AC, d.flags.OV, d.flags.P] = [false, false, false, false] := by decide

/-- V-51C-11: `JNC 0x20`. -/
theorem test_v_51c_11 : let d := run51 {} { Core51.initial with PC := 0x09, flags := { C := true, AC := false, OV := false, P := false } } "JNC 0x20"
    d.PC = 0x09 ∧ [d.flags.C, d.flags.AC, d.flags.OV, d.flags.P] = [true, false, false, false] := by decide

/-- V-51C-12: `SJMP #4`. -/
theorem test_v_51c_12 : let d := run51 {} Core51.initial "SJMP #4"
    d.PC = 0x04 ∧ [d.flags.C, d.flags.AC, d.flags.OV, d.flags.P] = [false, false, false, false] := by decide

/-- V-51C-19: `INC A`. -/
theorem test_v_51c_19 : let d := run51 { ipStep := 1 } { Core51.initial with PC := 0x05 } "INC A"
    d.A = 0x01 ∧ d.PC = 0x06 ∧ [d.flags.C, d.flags.AC, d.flags.OV, d.flags.P] = [false, false, false, true] := by decide

/-- V-51C-20: `CLR C`. -/
theorem test_v_51c_20 : let d := run51 { ipStep := 1 } { Core51.initial with PC := 0xFF } "CLR C"
    d.PC = 0x00 ∧ [d.flags.C, d.flags.AC, d.flags.OV, d.flags.P] = [false, false, false, false] := by decide

/-- `MOV AH, AL`, worked out from R138. -/
theorem test_x86_mov_r8_r8 : let d := run86 {} { Core86.initial with AX := 0x1234 } "MOV AH, AL"
    d.AX = 0x3434 := by decide

/-- `SUB AL, #1`, worked out from R140 at width 16 (R135). -/
theorem test_x86_sub_r8_imm : let d := run86 {} { Core86.initial with AX := 0 } "SUB AL, #1"
    d.AX = 0x00FF ∧ [d.flags.CF, d.flags.ZF, d.flags.SF, d.flags.PF] = [true, false, true, true] := by decide

/-- `SUB AX, BL`, worked out from R140 on mixed widths. -/
theorem test_x86_sub_form : let d := run86 {} { Core86.initial with AX := 0x0100, BX := 0xFF01 } "SUB AX, BL"
    d.AX = 0x00FF ∧ [d.flags.CF, d.flags.ZF, d.flags.SF, d.flags.PF] = [false, false, false, true] := by decide

/-- `CMP AX, BX`, worked out from R141. -/
theorem test_x86_cmp_r16_r16 : let d := run86 {} { Core86.initial with AX := 1, BX := 2 } "CMP AX, BX"
    d.AX = 1 ∧ [d.flags.CF, d.flags.ZF, d.flags.SF, d.flags.PF] = [true, false, true, true] := by decide

/-- `CMP AL, BL`, worked out from R141 at width 8. -/
theorem test_x86_cmp_r8_r8 : let d := run86 {} { Core86.initial with AX := 0x0080, BX := 1 } "CMP AL, BL"
    d.AX = 0x80 ∧ [d.flags.CF, d.flags.ZF, d.flags.SF, d.flags.PF] = [false, false, false, false] := by decide

/-- `AND AL, #0x0F`, worked out from R144. -/
theorem test_x86_and_r8_imm : let d := run86 {} { Core86.initial with AX := 0xABFF } "AND AL, #0x0F"
    d.AX = 0xAB0F ∧ [d.flags.CF, d.flags.ZF, d.flags.SF, d.flags.PF, d.flags.OF] = [false, false, false, true, false] := by decide

/-- `AND AH, AL`, worked out from R144 at width 8. -/
theorem test_x86_and_r8_r8 : let d := run86 {} { Core86.initial with AX := 0xF00F } "AND AH, AL"
    d.AX = 0x000F ∧ [d.flags.CF, d.flags.ZF, d.flags.SF, d.flags.PF, d.flags.OF] = [false, true, false, true, false] := by decide

/-- `AND AX, BL`, worked out from R144 on mixed widths. -/
theorem test_x86_and_form : let d := run86 {} { Core86.initial with AX := 0xFFFF, BX := 0x1280 } "AND AX, BL"
    d.AX = 0x0080 ∧ [d.flags.CF, d.flags.ZF, d.flags.SF, d.flags.PF, d.flags.OF] = [false, false, false, false, false] := by decide

/-- `OR AX, #0x8000`, worked out from R145. -/
theorem test_x86_or_r16_imm : let d := run86 {} { Core86.initial with AX := 1 } "OR AX, #0x8000"
    d.AX = 0x8001 ∧ [d.flags.CF, d.flags.ZF, d.flags.SF, d.flags.PF, d.flags.OF] = [false, false, true, false, false] := by decide

/-- `OR AL, #0x80`, worked out from R145 at width 16. -/
theorem test_x86_or_r8_imm : let d := run86 {} { Core86.initial with AX := 0 } "OR AL, #0x80"
    d.AX = 0x0080 ∧ [d.flags.CF, d.flags.ZF, d.flags.SF, d.flags.PF, d.flags.OF] = [false, false, false, false, false] := by decide

/-- `OR AL, BL`, worked out from R145 at width 8. -/
theorem test_x86_or_r8_r8 : let d := run86 {} { Core86.initial with AX := 0x0080, BX := 1 } "OR AL, BL"
    d.AX = 0x0081 ∧ [d.flags.CF, d.flags.ZF, d.flags.SF, d.flags.PF, d.flags.OF] = [false, false, true, true, false] := by decide

/-- `OR AL, #0x100`, worked out from R145: a literal wider than AL; the 16-bit result is not 0. -/
theorem test_x86_or_form : let d := run86 {} { Core86.initial with AX := 0 } "OR AL, #0x100"
    d.AX = 0 ∧ [d.flags.CF, d.flags.ZF, d.flags.SF, d.flags.PF, d.flags.OF] = [false, false, false, true, false] := by decide

/-- `XOR AX, #0xFFFF`, worked out from R146. -/
theorem test_x86_xor_r16_imm : let d := run86 {} { Core86.initial with AX := 0xFFFF } "XOR AX, #0xFFFF"
    d.AX = 0 ∧ [d.flags.CF, d.flags.ZF, d.flags.SF, d.flags.PF, d.flags.OF] = [false, true, false, true, false] := by decide

/-- `XOR AL, #0xFF`, worked out from R146 at width 16. -/
theorem test_x86_xor_r8_imm : let d := run86 {} { Core86.initial with AX := 0x120F } "XOR AL, #0xFF"
    d.AX = 0x12F0 ∧ [d.flags.CF, d.flags.ZF, d.flags.SF, d.flags.PF, d.flags.OF] = [false, false, false, true, false] := by decide

/-- `XOR AX, BL`, worked out from R146 on mixed widths. -/
theorem test_x86_xor_form : let d := run86 {} { Core86.initial with AX := 0x1200, BX := 0xFF34 } "XOR AX, BL"
    d.AX = 0x1234 ∧ [d.flags.CF, d.flags.ZF, d.flags.SF, d.flags.PF, d.flags.OF] = [false, false, false, false, false] := by decide

/-- `JE 300`, worked out from R161, R170. -/
theorem test_x86_je_wide : let d := run86 {} { Core86.initial with flags := { Flags86.clear with ZF := true } } "JE 300"
    d.IP = 300 := by decide

/-- `JZ 65538`, worked out from R162, R170. -/
theorem test_x86_jz_wide : let d := run86 {} { Core86.initial with flags := { Flags86.clear with ZF := true } } "JZ 65538"
    d.IP = 2 := by decide

/-- `JNE 256`, worked out from R163, R170. -/
theorem test_x86_jne_wide : let d := run86 {} { Core86.initial with AX := 0 } "JNE 256"
    d.IP = 256 := by decide

/-- `JNZ 256`, worked out from R164, R170. -/
theorem test_x86_jnz_wide : let d := run86 {} { Core86.initial with AX := 0 } "JNZ 256"
    d.IP = 256 := by decide

/-- `DEC B`, worked out from R191. -/
theorem test_i51_dec_b : let d := run51 {} { Core51.initial with B := 0 } "DEC B"
    d.B = 0xFF := by decide

/-- `MOV B, A`, worked out from R184. -/
theorem test_i51_mov_b_a : let d := run51 {} { Core51.initial with A := 3 } "MOV B, A"
    d.B = 3 := by decide

/-- `MOV B, R5`, worked out from R184. -/
theorem test_i51_mov_b_rn : let d := run51 {} { Core51.initial with R5 := 0x42 } "MOV B, R5"
    d.B = 0x42 := by decide

/-- `MOV R6, B`, worked out from R184. -/
theorem test_i51_mov_rn_b : let d := run51 {} { Core51.initial with B := 0x99 } "MOV R6, B"
    d.R6 = 0x99 := by decide

/-- `JZ 1FFH`, worked out from R222, R220. -/
theorem test_i51_jz_wide : let d := run51 {} { Core51.initial with A := 0 } "JZ 1FFH"
    d.PC = 0xFF := by decide

/-- `JNZ 1FFH`, worked out from R223, R220. -/
theorem test_i51_jnz_wide : let d := run51 {} { Core51.initial with A := 3 } "JNZ 1FFH"
    d.PC = 0xFF := by decide

/-- `JC 107H`, worked out from R224, R220. -/
theorem test_i51_jc_wide : let d := run51 {} { Core51.initial with flags := { C := true, AC := false, OV := false, P := false } } "JC 107H"
    d.PC = 7 := by decide

/-- `JNC 107H`, worked out from R225, R220. -/
theorem test_i51_jnc_wide : let d := run51 {} { Core51.initial with A := 0 } "JNC 107H"
    d.PC = 7 := by decide

/-! ### Refused records (vectors of parts 5 to 9) -/

theorem test_refused_literal_destination : refusalOf .core86 "ADD #1, AX" = some (.inadmissibleForm .core86 (tok "ADD")) := by decide

theorem test_refused_segment_register : refusalOf .core86 "MOV CS, AX" = some (.refusedName (tok "CS")) := by decide

theorem test_refused_numeral : refusalOf .core86 "ADD AX, 12AB" = some (.refusedNumeral (tok "12AB")) := by decide

theorem test_refused_lower_case : refusalOf .core86 "ADD ax, #1" = some (.lowerCaseToken (tok "ax")) := by decide

/-- A lower-case `@` token is refused by the assembler too, not answered as an unknown instruction (R83, R98). -/
theorem test_assembler_lower_case_indirect :
    (match assembleRecord .core51 optab51 { mnemonic := tok "MOVX", operands := [tok "A", tok "@dptr"] } with
      | .error e => some e
      | .ok _ => none) = some (.lowerCaseToken (tok "@dptr")) := by decide

/-- The host's reset puts the cursor to 0 (R267), the block's reset leaves it (R261). -/
theorem test_host_reset_cursor : let s := advanceCursor (advanceCursor State.reset)
    (hostReset .core51 s).session.cursor = 0 ∧ (resetCore .core51 s).session.cursor = 2 := by decide

theorem test_refused_register_target : refusalOf .core86 "JMP AX" = some (.inadmissibleForm .core86 (tok "JMP")) := by decide

theorem test_refused_unlisted : refusalOf .core51 "HLT" = some (.unlistedMnemonic .core51 (tok "HLT")) := by decide

theorem test_refused_indirect_register : refusalOf .core51 "MOVX A, @R2" = some (.refusedName (tok "@R2")) := by decide

theorem test_refused_direct_address : refusalOf .core51 "MOV A, 30" = some (.inadmissibleForm .core51 (tok "MOV")) := by decide

/-! ### Witnesses: for each statement with hypotheses, states and operands that meet them -/

/-- A state with something in every part: registers, flags, both memories, a listing on core51. -/
def sample : State :=
  { State.reset with
    core86 := { Core86.initial with AX := 0x12FF, BX := 1, IP := 0xFFFF, mem := [(0, 7), (0xFFFFF, 1)] }
    core51 := { Core51.initial with
      A := 0x81, B := 3, R0 := 0x40, R1 := 0xFF, DPTR := 0xFFFF, PC := 0xFF
      mem := [(0x40, 0x99), (0xFFFF, 1)] }
    session := { selected := .core51, cursor := 0, log := []
                 listing := [{ mnemonic := tok "MUL", operands := [tok "AB"] }] } }

/-- The sample with core86 selected, a listing of core86 and, if asked, the halt latch set. -/
def sample86 (halted : Bool) (r : Record) : State :=
  { sample with
    core86 := { sample.core86 with halted := halted }
    session := { sample.session with selected := .core86, listing := [r] } }

/-- The record of HLT. -/
def hltRecord : Record := { mnemonic := tok "HLT", operands := [] }

/-- The record of `JMP 3`. -/
def jmpRecord : Record := { mnemonic := tok "JMP", operands := [tok "3"] }

/-- A record that no core has a meaning for. -/
def nopRecord : Record := { mnemonic := tok "NOP", operands := [] }

/-- The hypothesis `Invariant s`: the sample meets it (statements on MOVX stores, host memory, loads, steps). -/
theorem witness_invariant : Invariant sample :=
  ⟨by decide, by decide, by decide, by decide, by decide, by decide⟩

/-- Under the other polarity P is true for the sample's even count. -/
theorem witness_invariant_even : Invariant { sample with
    params := { parityOdd := false }
    core51 := { sample.core51 with flags := { sample.core51.flags with P := true } } } :=
  ⟨by decide, by decide, by decide, by decide, by decide, by decide⟩

/-- StepKeepsInvariant, ParityOfAccumulator: a step of the sample answers a next state. -/
theorem witness_StepKeepsInvariant : Invariant sample ∧ ∃ t, step sample = .next t :=
  ⟨witness_invariant, _, rfl⟩

/-- TransactionsKeepInvariant: one transaction of each kind. -/
theorem witness_TransactionsKeepInvariant : Invariant sample ∧
    (∃ t, perform (.reset .core51) sample = .next t) ∧
    (∃ t, perform (.loadProgram .core86 [1, 2]) sample = .next t) ∧
    (∃ t, perform (.loadExternalMemory 0xFFFF [1, 2]) sample = .next t) ∧
    (∃ t, perform (.writeMemory .core51 0x1FFFF 0x1FF) sample = .next t) ∧
    ∃ t, perform (.execute .core86 jmpRecord) sample = .next t :=
  ⟨witness_invariant, ⟨_, rfl⟩, ⟨_, rfl⟩, ⟨_, rfl⟩, ⟨_, rfl⟩, _, rfl⟩

/-- ResultFlags86: the bounds of both widths, an instruction of the eight mnemonics and one outside them. -/
theorem witness_ResultFlags86 : (0 < 2 ^ widthBits .w8 ∧ 255 < 2 ^ widthBits .w8 ∧
      65535 < 2 ^ widthBits .w16) ∧
    (setsResultFlags (.x86IncR8 .AH) = true ∧ ∃ t, exec (.x86IncR8 .AH) sample = .next t) ∧
    setsResultFlags (.x86MovR16Imm16 .AX 0) = false ∧ ∃ t, exec (.x86MovR16Imm16 .AX 0) sample = .next t :=
  ⟨by decide, ⟨rfl, _, rfl⟩, rfl, _, rfl⟩

/-- HalfRegisters86: the register with halves BH and BL. -/
theorem witness_HalfRegisters86 : (R16.BX, R8.BH, R8.BL) ∈
    [(R16.AX, R8.AH, R8.AL), (R16.BX, R8.BH, R8.BL), (R16.CX, R8.CH, R8.CL), (R16.DX, R8.DH, R8.DL)] := by
  decide

/-- ConditionalJumps86: ZF true and ZF false. -/
theorem witness_ConditionalJumps86 : sample.core86.flags.ZF = false ∧
    (let s := { sample with core86 := { sample.core86 with flags := { Flags86.clear with ZF := true } } }
     s.core86.flags.ZF = true) := by decide

/-- Jumps51: A zero and not, C true and false. -/
theorem witness_Jumps51 : sample.core51.A ≠ 0 ∧ State.reset.core51.A = 0 ∧ sample.core51.flags.C = false ∧
    (let s := { sample with core51 := sample.core51.setC true }; s.core51.flags.C = true) := by decide

/-- Hlt86: core86 selected and halted, and an instruction that completes. -/
theorem witness_Hlt86 : ((sample86 true hltRecord).session.selected = .core86 ∧
      (sample86 true hltRecord).core86.halted = true) ∧
    (∃ t, exec .x86Hlt sample = .next t) ∧ ∃ t, exec .i51DivAB State.reset = .next t :=
  ⟨⟨rfl, rfl⟩, ⟨_, rfl⟩, _, rfl⟩

/-- PointerAdvance: an untaken jump, DIV on core86, MUL AB, and DIV AB by zero. -/
theorem witness_PointerAdvance :
    ((Instr.x86Je 2).arch = .core86 ∧ takenJump (.x86Je 2) sample = false ∧ ∃ t, exec (.x86Je 2) sample = .next t) ∧
    (Instr.x86Div.arch = .core86 ∧ takenJump .x86Div sample = false ∧ ∃ t, exec .x86Div sample = .next t) ∧
    (Instr.i51MulAB.arch = .core51 ∧ takenJump .i51MulAB sample = false ∧ ∃ t, exec .i51MulAB sample = .next t) ∧
    (Instr.i51DivAB.arch = .core51 ∧ takenJump .i51DivAB State.reset = false ∧
      (Instr.i51DivAB = .i51DivAB ∧ State.reset.core51.B = 0) ∧ ∃ t, exec .i51DivAB State.reset = .next t) :=
  ⟨⟨rfl, rfl, _, rfl⟩, ⟨rfl, rfl, _, rfl⟩, ⟨rfl, rfl, _, rfl⟩, rfl, rfl, ⟨rfl, rfl⟩, _, rfl⟩

/-- MovxLoadDptr51: an instruction outside MOVX. -/
theorem witness_MovxLoadDptr51 : storesMemory .i51MulAB = false ∧ Instr.i51MulAB ≠ .i51MovxADptr ∧
    (∀ x, Instr.i51MulAB ≠ .i51MovxARi x) ∧ ∃ t, exec .i51MulAB sample = .next t :=
  ⟨rfl, by decide, (fun x h => by cases h), _, rfl⟩

/-- MovxStoreDptr51, MovxStoreRi51: the sample, whose DPTR is the top of memory; its byte and another. -/
theorem witness_MovxStore51 : Invariant sample ∧ sample.core51.DPTR.toNat = 0xFFFF ∧
    (0x10000 : Nat) % 2 ^ 16 ≠ sample.core51.DPTR.toNat % 2 ^ 16 :=
  ⟨witness_invariant, by decide, by decide⟩

/-- Div51: a divisor that is not zero, and zero. -/
theorem witness_Div51 : sample.core51.B ≠ 0 ∧ State.reset.core51.B = 0 := by decide

/-- JumpsDoNotRedirect: a listing entry that runs, and a taken jump of each core. -/
theorem witness_JumpsDoNotRedirect :
    ((sample86 false jmpRecord).session.listing[(sample86 false jmpRecord).session.cursor]? = some jmpRecord ∧
      haltCheck (sample86 false jmpRecord).session.selected (sample86 false jmpRecord) = false ∧
      ∃ t, step (sample86 false jmpRecord) = .next t) ∧
    (takenJump (.x86Jmp 3) sample = true ∧ ∃ t, exec (.x86Jmp 3) sample = .next t) ∧
    takenJump (.i51Jnz 3) sample = true ∧ ∃ t, exec (.i51Jnz 3) sample = .next t :=
  ⟨⟨rfl, rfl, _, rfl⟩, ⟨rfl, _, rfl⟩, rfl, _, rfl⟩

/-- ReportedStatus, NeverStops, InstructionsAndMemory: an instruction of each status completes. -/
theorem witness_exec : (∃ t, exec .i51MovxDptrA sample = .next t) ∧ (∃ t, exec .x86Div sample = .next t) ∧
    (∃ t, exec .i51DivAB State.reset = .next t) ∧ storesMemory .i51DivAB = false ∧
    resolve .core86 hltRecord = .ok .x86Hlt :=
  ⟨⟨_, rfl⟩, ⟨_, rfl⟩, ⟨_, rfl⟩, rfl, by decide⟩

/-- InertCells, HaltLatch: transactions that are no reset, one that sets the latch, one that keeps it set. -/
theorem witness_InertCells :
    (Transaction.execute .core86 hltRecord ≠ .reset .core86 ∧ Transaction.execute .core86 hltRecord ≠ .reset .core51) ∧
    (∃ t, perform (.execute .core86 hltRecord) sample = .next t ∧ t.core86.halted ≠ sample.core86.halted) ∧
    (sample86 true jmpRecord).core86.halted = true ∧
    ∃ t, perform (.execute .core86 jmpRecord) (sample86 true jmpRecord) = .next t :=
  ⟨⟨by decide, by decide⟩, ⟨_, rfl, by decide⟩, rfl, _, rfl⟩

/-- CoresIsolated: transactions on each core, and a second state that agrees on that core only. -/
theorem witness_CoresIsolated :
    ((∃ t, perform (.execute .core86 jmpRecord) sample = .next t) ∧
      transactionCore (.execute .core86 jmpRecord) = .core86 ∧
      { State.reset with core86 := sample.core86 }.core86 = sample.core86 ∧
      { State.reset with core86 := sample.core86 }.params = sample.params ∧
      { State.reset with core86 := sample.core86 }.resetRecord86 = sample.resetRecord86) ∧
    (∃ t, perform (.writeMemory .core51 3 4) sample = .next t) ∧
      transactionCore (.writeMemory .core51 3 4) = .core51 ∧
      { State.reset with core51 := sample.core51 }.core51 = sample.core51 ∧
      { State.reset with core51 := sample.core51 }.params = sample.params ∧
      { State.reset with core51 := sample.core51 }.resetRecord51 = sample.resetRecord51 :=
  ⟨⟨⟨_, rfl⟩, rfl, rfl, rfl, rfl⟩, ⟨_, rfl⟩, rfl, rfl, rfl, rfl⟩

/-- HostMemory: equal addresses modulo the size, at the top and past it, and different ones. -/
theorem witness_HostMemory : Invariant sample ∧
    0x1FFFFF % addressSpace .core86 = 0xFFFFF % addressSpace .core86 ∧
    ¬0x100000 % addressSpace .core86 = 0xFFFFF % addressSpace .core86 ∧
    0x1FFFF % addressSpace .core51 = 0xFFFF % addressSpace .core51 ∧
    ¬0x10000 % addressSpace .core51 = 0xFFFF % addressSpace .core51 :=
  ⟨witness_invariant, by decide, by decide, by decide, by decide⟩

/-- LoadTransactions: an address a wrapping load reaches, and one it does not. -/
theorem witness_LoadTransactions : Invariant sample ∧
    loadedByte (addressSpace .core51) 0xFFFF 0 [8, 9] = some 9 ∧
    loadedByte (addressSpace .core51) 0xFFFF 1 [8, 9] = none :=
  ⟨witness_invariant, by decide, by decide⟩

/-- StepRunsTheListing: no entry; core86 halted; an entry that resolves; one that does not. -/
theorem witness_StepRunsTheListing :
    State.reset.session.listing[State.reset.session.cursor]? = none ∧
    ((sample86 true hltRecord).session.selected = .core86 ∧ (sample86 true hltRecord).core86.halted = true) ∧
    (sample.session.listing[sample.session.cursor]? = some { mnemonic := tok "MUL", operands := [tok "AB"] } ∧
      ¬(sample.session.selected = .core86 ∧ sample.core86.halted = true) ∧
      resolve sample.session.selected { mnemonic := tok "MUL", operands := [tok "AB"] } = .ok .i51MulAB) ∧
    (sample86 false nopRecord).session.listing[(sample86 false nopRecord).session.cursor]? = some nopRecord ∧
    ¬((sample86 false nopRecord).session.selected = .core86 ∧ (sample86 false nopRecord).core86.halted = true) ∧
    resolve (sample86 false nopRecord).session.selected nopRecord =
      .error (.unlistedMnemonic .core86 nopRecord.mnemonic) := by decide

/-- StepRunsTheDecodedWord: a word of each core. -/
theorem witness_StepRunsTheDecodedWord : decodeTableWord 8 0xF4 = some .x86Hlt ∧
    decodeTableWord 16 0x1080 = some (.i51Sjmp 0x10) := by decide

/-- RunIsStepping: a run that ends and one that is refused. -/
theorem witness_RunIsStepping :
    [hltRecord, jmpRecord].length ≤ 2 ∧
    (∃ t, runListing .core86 [hltRecord, jmpRecord] (setListing [hltRecord, jmpRecord] (selectCore .core86 sample)) =
      .next t ∧ t.core86.halted = true) ∧
    runListing .core86 [nopRecord] (setListing [nopRecord] (selectCore .core86 sample)) =
      .refused (.unlistedMnemonic .core86 (tok "NOP")) :=
  ⟨by decide, ⟨_, rfl, rfl⟩, rfl⟩

/-- An answer that is not a refusal is an assembly. -/
theorem exists_assembly (x : Except Refusal Assembly)
    (h : (match x with | .ok _ => true | .error _ => false) = true) : ∃ out, x = .ok out := by
  cases x with
  | error e => cases h
  | ok out => exact ⟨out, rfl⟩

/-- The text `MUL AB`. -/
def mulText : List Char := ['M', 'U', 'L', ' ', 'A', 'B']

/-- The text `JMP 3`. -/
def jmpText : List Char := ['J', 'M', 'P', ' ', '3']

/-- The lines `HLT` and `JMP 3`. -/
def hltText : List Char := ['H', 'L', 'T'] ++ '\n' :: jmpText

/-- A table of three entries, for the texts above. -/
def threeEntries : Table :=
  [rowOne ['H', 'L', 'T'] [0xF4] 1 [], rowOne ['J', 'M', 'P'] [0xE9] 3 [.field false .rel16],
    rowOne ['M', 'U', 'L'] [0xA4] 1 [.fixed ['A', 'B']]]

/-- RunExecutesEachEntryOnce: listings of both cores that resolve, HLT's record, a halted core86, and texts
that assemble, one for each way its last clause allows a listing to end. -/
theorem witness_RunExecutesEachEntryOnce :
    (sample.session.listing.map (resolve .core51) = [Instr.i51MulAB].map Except.ok ∧
      sample.core86.halted = false ∧ [jmpRecord].map (resolve .core86) = [Instr.x86Jmp 3].map Except.ok ∧
      Instr.x86Hlt ∉ [Instr.x86Jmp 3] ∧ resolve .core86 hltRecord = .ok .x86Hlt ∧
      (sample86 true hltRecord).core86.halted = true) ∧
    ((∃ out, assemble .core51 threeEntries mulText = .ok out) ∧
      (listingOf mulText).map (resolve .core51) = [Instr.i51MulAB].map Except.ok) ∧
    ((∃ out, assemble .core86 threeEntries jmpText = .ok out) ∧
      (listingOf jmpText).map (resolve .core86) = [Instr.x86Jmp 3].map Except.ok) ∧
    (∃ out, assemble .core86 threeEntries hltText = .ok out) ∧
      ∃ l m, listingOf hltText = l ++ m ∧
        l.map (resolve .core86) = ([] ++ [Instr.x86Hlt]).map Except.ok ∧ m.length = 1 :=
  ⟨⟨by decide, rfl, by decide, by decide, by decide, rfl⟩, ⟨exists_assembly _ (by decide), by decide⟩,
    ⟨exists_assembly _ (by decide), by decide⟩, exists_assembly _ (by decide), _, _,
    (List.take_append_drop 1 _).symm, by decide, by decide⟩

/-- AdmittedListingNeverStops: the sample's listing has a meaning. -/
theorem witness_AdmittedListingNeverStops : ListingAdmitted sample := by
  intro r hr
  simp only [sample, List.mem_singleton] at hr
  subst hr
  exact ⟨.i51MulAB, by decide⟩

/-- ByteOrder: the bound of a 2-byte field, and the entry with one. -/
theorem witness_ByteOrder : 65535 < 2 ^ 16 ∧ placeholderSize .imm16 = 2 ∧
    (tableEntries optab51).any (fun e => e.template.contains (.field true .imm16)) = true := by decide

/-- A table of two entries with one first byte. -/
def twoEntries : Table :=
  [[{ mnemonic := tok "HLT", lead := [0xF4], len := 2, template := [.field false .rel8] },
    { mnemonic := tok "NOP", lead := [0xF4, 1], len := 2, template := [] }]]

/-- FirstByteSelects: a byte that begins no entry, and a first entry that just fits the buffer or is one byte
too long for it. -/
theorem witness_FirstByteSelects :
    (∀ e ∈ tableEntries twoEntries, e.lead.head? ≠ some 0x90) ∧
    ∃ pre e post, tableEntries twoEntries = pre ++ e :: post ∧
      (∀ e' ∈ pre, e'.lead.head? ≠ some 0xF4) ∧ e.lead.head? = some 0xF4 ∧ e.len ≤ [(7 : Byte)].length + 1 ∧
      ([] : List Byte).length + 1 < e.len :=
  ⟨by decide, [], _, _, rfl, by decide, rfl, by decide, by decide⟩

/-- DecodeEncode, ShadowedDecode86, AssemblerEncodes: instructions with and without an encoding. -/
theorem witness_DecodeEncode :
    ((Instr.i51MovDptrImm 0xFFFF).arch = .core51 ∧ encode (.i51MovDptrImm 0xFFFF) = some [0x90, 0xFF, 0xFF]) ∧
    reachable86 (.x86MovR16Imm16 .DI 0xFFFF) = true ∧
    ((Instr.x86XorR8Imm8 .BH 0xFF).arch = .core86 ∧ encode (.x86XorR8Imm8 .BH 0xFF) = some [0x80, 0xF7, 0xFF]) ∧
    wellFormed (.x86JmpLit 65536) = true ∧ encode (.x86JmpLit 65536) = none := by decide

/-- RoundTripPrograms: a program of each core. -/
theorem witness_RoundTripPrograms :
    (∀ x ∈ [(Instr.i51RlcA, [(0x33 : Byte)]), (.i51Sjmp 1, [0x80, 1])],
      x.1.arch = .core51 ∧ encode x.1 = some x.2) ∧
    ∀ x ∈ [(Instr.x86Hlt, [(0xF4 : Byte)]), (.x86IncR16 .BX, [0x43])],
      reachable86 x.1 = true ∧ encode x.1 = some x.2 := by decide

/-- DisassemblyCoversBuffer: both reference tables are well-formed (R91), and a disassembly has lines. -/
theorem witness_DisassemblyCoversBuffer :
    (∀ e ∈ tableEntries optab51, entryWellFormed e = true) ∧
    ∃ pre l post, disassemble optab51 [0xA4, 0x84] = pre ++ l :: post ∧ pre.length = 1 := by
  refine ⟨?_, [⟨0, [0xA4], _⟩], ⟨1, [0x84], _⟩, [], rfl, rfl⟩
  exact List.all_eq_true.mp (by decide : (tableEntries optab51).all entryWellFormed = true)

/-- The reference table of core86 is well-formed (R91). -/
theorem test_optab86_wellFormed : optab86.all (fun row => row.all entryWellFormed) = true := by decide

/-- RecordsResolve: a well-formed instruction of each core, one of them execute-only, and a record. -/
theorem witness_RecordsResolve : wellFormed (.x86CmpForm (.lit 5) (.lit 5)) = true ∧
    wellFormed (.i51MovForm (.R .R1) (.loc (.R .R2))) = true ∧
    resolve .core86 jmpRecord = .ok (.x86Jmp 3) := by decide

/-- AssemblyAddresses: a text of two lines. -/
theorem witness_AssemblyAddresses : ∃ out pre x post,
    assemble .core51 optab51 "MOV A, #3\nMUL AB".toList = .ok out ∧ out.items = pre ++ x :: post ∧
      pre.length = 1 :=
  ⟨_, [_], _, [], rfl, rfl, rfl⟩

/-- RadixAsymmetry: digit strings of each radix, and one that is no name before H and one that is. -/
theorem witness_RadixAsymmetry : ([8, 5, 0, 0] : List (Fin 10)) ≠ [] ∧ ([10, 15] : List (Fin 16)) ≠ [] ∧
    ([1, 0, 1] : List (Fin 2)) ≠ [] ∧ ¬OperandName .core86 (digitString ([10, 15] : List (Fin 16)) ++ ['H']) ∧
    OperandName .core86 (digitString ([10] : List (Fin 16)) ++ ['H']) := by
  unfold OperandName
  decide

/-- RefusedRecords: an unlisted mnemonic, names and literals of both cores, tokens of each refused kind, and
records that hold one. -/
theorem witness_RefusedRecords :
    (nopRecord.mnemonic ∉ ["MOV", "ADD", "SUB", "CMP", "INC", "DEC", "AND", "OR", "XOR", "JMP", "JE", "JZ", "JNE",
      "JNZ", "HLT", "DIV"].map tok ∧
    nopRecord.mnemonic ∉ ["MOV", "MOVX", "INC", "DEC", "MUL", "DIV", "RLC", "RRC", "CLR", "SETB", "CPL", "SJMP",
      "JZ", "JNZ", "JC", "JNC"].map tok) ∧
    (tok "BH" ∈ registerNames86 ∧ tok "DI" ∈ registerNames86 ∧ tok "@R1" ∈ operandNames51) ∧
    (cls86 (tok "#5") = .ok (.lit 5) ∧ cls86 (tok "DI") = .ok (.r16 .DI)) ∧
    (cls51 (tok "30H") = .ok (.bare 0x30) ∧ cls51 (tok "#3") = .ok (.imm 3) ∧ cls51 (tok "A") = .ok (.loc .A)) ∧
    (tok "IP" ∈ unreachableNames86 ∧ tok "P3" ∈ unreachableNames51 ∧
      (tok "@R2").head? = some '@' ∧ tok "@R2" ∉ operandNames51) ∧
    (('z').isLower = true ∧ ¬('z' = 'x' ∧ ['0'] ∈ [['0'], ['#', '0']]) ∧
      ('x').isLower = true ∧ ¬('x' = 'x' ∧ ['0', '0'] ∈ [['0'], ['#', '0']])) ∧
    (cls86 (tok "IP") = .error (.refusedName (tok "IP")) ∧ tok "MOV" ≠ tok "DIV" ∧
      cls51 (tok "P3") = .error (.refusedName (tok "P3")) ∧
      refusedToken .core51 (tok "@dptr") = some (.lowerCaseToken (tok "@dptr"))) := by decide

/-- The first part of `PlainBody` as a test of each character. -/
theorem plainBody_of (t : Token) (low : t.all (fun c => !c.isLower) = true)
    (rest : t.head? ∉ [some '#', some '-', some '+'] ∧ t.take 2 ≠ ['0', 'X'] ∧ t.getLast? ≠ some 'H' ∧
      t.getLast? ≠ some 'B') : PlainBody t :=
  ⟨fun c hc => by simpa using List.all_eq_true.mp low c hc, rest⟩

/-- FallbackAndRefusedNumerals: a fallback of each core, the empty one among them, a numeral valid at its
start only, names, and bodies with an invalid digit. -/
theorem witness_FallbackAndRefusedNumerals :
    (PlainBody ['[', 'B', 'X'] ∧ NoLeadingDigit .core86 ['[', 'B', 'X'] ∧ ¬OperandName .core86 ['[', 'B', 'X']) ∧
    (PlainBody [] ∧ NoLeadingDigit .core51 [] ∧ ¬OperandName .core51 []) ∧
    (PlainBody ['1', '2', 'A', 'F'] ∧ (['1', '2', 'A', 'F'] : Token).head? = some '1' ∧
      '1' ∈ validDigits (defaultRadix .core86) ∧
      'F' ∈ ['1', '2', 'A', 'F'] ∧ 'F' ∉ validDigits (defaultRadix .core86)) ∧
    (OperandName .core86 (tok "AH") ∧ OperandName .core51 (tok "@R5")) ∧
    ('G' ∈ ['1', 'G'] ∧ 'G' ∉ validDigits 16 ∧ (['1', 'G'] : Token).head? ≠ some '#') ∧
    ('2' ∈ ['1', '2'] ∧ '2' ∉ validDigits 2 ∧ (['1', '2'] : Token).head? ≠ some '#' ∧
      (['1', '2'] : Token).take 2 ∉ [['0', 'x'], ['0', 'X']]) := by
  have none : NoLeadingDigit .core51 [] := fun c hc => by cases hc
  have some : NoLeadingDigit .core86 ['[', 'B', 'X'] := by
    intro c hc
    have : c = '[' := (Option.some.inj hc).symm
    subst this
    decide
  refine ⟨⟨?_, some, ?_⟩, ⟨?_, none, ?_⟩, ⟨?_, ?_⟩, ?_, ?_, ?_⟩ <;>
    first | decide | exact plainBody_of _ (by decide) (by decide) | (unfold OperandName; decide)

end Sys2Proof.Tests
end

section
/-! PROOFS. The forms of instructions: each instruction of a core is one of a few shared operations, and what such
an operation makes of its core is a function of that core and the parameters alone (R45). The only split over all
constructors of `Instr` is here, in `exec_form86` and `exec_form51`. -/

namespace Sys2Proof.Machine

open Sys2Proof.Safety

/-! ### core86 -/

/-- The shared operation that performs an instruction of core86. -/
inductive Form86 (i : Instr) : (State → Result) → Prop
  | move (d : Dst86) (src : Opd86) (hi : i ≠ .x86Hlt) : Form86 i (move86 d src)
  | binary (m : Arith86) (d : Dst86) (src : Opd86) (hi : i ≠ .x86Hlt) : Form86 i (binary86 m d src)
  | compare (l r : Opd86) (hi : i ≠ .x86Hlt) : Form86 i (compare86 l r)
  | unary (m : Arith86) (d : Dst86) (hi : i ≠ .x86Hlt) : Form86 i (unary86 m d)
  | jump (n : Nat) (hi : i ≠ .x86Hlt) : Form86 i fun s => jump86 s n
  | branch (taken : Core86 → Bool) (n : Nat) (hi : i ≠ .x86Hlt) :
      Form86 i fun s => branch86 (taken s.core86) n s
  | halt (hi : i = .x86Hlt) : Form86 i execX86Hlt
  | unknown (hi : i ≠ .x86Hlt) : Form86 i unknown86

theorem exec_form86 {i : Instr} (hi : i.arch = .core86) : Form86 i (exec i) := by
  cases i with
  | x86MovR16Imm16 | x86MovR8Imm8 | x86MovR16R16 | x86MovR8R8 | x86MovForm => exact .move _ _ nofun
  | x86AddR16Imm16 | x86AddR8Imm8 | x86AddR16R16 | x86AddR8R8 | x86AddForm => exact .binary .add _ _ nofun
  | x86SubR16Imm16 | x86SubR8Imm8 | x86SubR16R16 | x86SubR8R8 | x86SubForm => exact .binary .sub _ _ nofun
  | x86AndR16Imm16 | x86AndR8Imm8 | x86AndR16R16 | x86AndR8R8 | x86AndForm => exact .binary .and _ _ nofun
  | x86OrR16Imm16 | x86OrR8Imm8 | x86OrR16R16 | x86OrR8R8 | x86OrForm => exact .binary .or _ _ nofun
  | x86XorR16Imm16 | x86XorR8Imm8 | x86XorR16R16 | x86XorR8R8 | x86XorForm => exact .binary .xor _ _ nofun
  | x86CmpR16Imm16 | x86CmpR8Imm8 | x86CmpR16R16 | x86CmpR8R8 | x86CmpForm => exact .compare _ _ nofun
  | x86IncR16 | x86IncR8 => exact .unary .inc _ nofun
  | x86DecR16 | x86DecR8 => exact .unary .dec _ nofun
  | x86Jmp | x86JmpLit => exact .jump _ nofun
  | x86Je | x86JeLit | x86Jz | x86JzLit => exact .branch (fun c => c.flags.ZF) _ nofun
  | x86Jne | x86JneLit | x86Jnz | x86JnzLit => exact .branch (fun c => !c.flags.ZF) _ nofun
  | x86Hlt => exact .halt rfl
  | x86Div => exact .unknown nofun
  | _ => cases hi

/-- The cells of core86 that only a reset writes (R24, R25) are the same. -/
structure Fixed86 (c d : Core86) : Prop where
  CS : d.CS = c.CS
  DS : d.DS = c.DS
  ES : d.ES = c.ES
  SS : d.SS = c.SS
  IF : d.flags.IF = c.flags.IF
  DF : d.flags.DF = c.flags.DF
  TF : d.flags.TF = c.flags.TF

theorem Fixed86.refl (c : Core86) : Fixed86 c c := ⟨rfl, rfl, rfl, rfl, rfl, rfl, rfl⟩

/-- What no instruction of core86 but HLT writes is the same: the fixed cells, the memory (R63), the latch (R26). -/
structure Quiet86 (c d : Core86) : Prop extends Fixed86 c d where
  mem : d.mem = c.mem
  halted : d.halted = c.halted

theorem Quiet86.refl (c : Core86) : Quiet86 c c := ⟨.refl c, rfl, rfl⟩

theorem Quiet86.setIP {c d : Core86} (h : Quiet86 c d) (n : Nat) : Quiet86 c (d.setIP n) :=
  ⟨⟨h.CS, h.DS, h.ES, h.SS, h.IF, h.DF, h.TF⟩, h.mem, h.halted⟩

theorem Quiet86.advanceIP {c d : Core86} (h : Quiet86 c d) (k : Fin 2) : Quiet86 c (d.advanceIP k) :=
  ⟨⟨h.CS, h.DS, h.ES, h.SS, h.IF, h.DF, h.TF⟩, h.mem, h.halted⟩

theorem Quiet86.write {c d : Core86} (h : Quiet86 c d) (x : Dst86) (v : Nat) : Quiet86 c (d.write x v) := by
  obtain ⟨⟨cs, ds, es, ss, -, -, -, -⟩, flags, halted, -, mem⟩ := write86_keeps d x v
  exact ⟨⟨cs.trans h.CS, ds.trans h.DS, es.trans h.ES, ss.trans h.SS,
    flags ▸ h.IF, flags ▸ h.DF, flags ▸ h.TF⟩, mem.trans h.mem, halted.trans h.halted⟩

/-- No arithmetic or logical instruction writes IF, DF or TF (R25). -/
theorem flags86_keeps (m : Arith86) (w : Width) (a b : Nat) (f : Flags86) :
    (flags86 m w a b f).IF = f.IF ∧ (flags86 m w a b f).DF = f.DF ∧ (flags86 m w a b f).TF = f.TF := by
  cases m <;> exact ⟨rfl, rfl, rfl⟩

theorem Quiet86.withFlags {c d : Core86} (h : Quiet86 c d) (m : Arith86) (w : Width) (a b : Nat) :
    Quiet86 c (d.withFlags (flags86 m w a b d.flags)) := by
  obtain ⟨hIF, hDF, hTF⟩ := flags86_keeps m w a b d.flags
  exact ⟨⟨h.CS, h.DS, h.ES, h.SS, hIF.trans h.IF, hDF.trans h.DF, hTF.trans h.TF⟩, h.mem, h.halted⟩

/-- core86 with the latch as an instruction leaves it: HLT sets it (R165). -/
def latch86 (i : Instr) (c : Core86) : Core86 := if i = .x86Hlt then c.setHalted else c

theorem latch86_of_eq {i : Instr} (hi : i = .x86Hlt) (c : Core86) : latch86 i c = c.setHalted := if_pos hi

theorem latch86_of_ne {i : Instr} (hi : i ≠ .x86Hlt) (c : Core86) : latch86 i c = c := if_neg hi

theorem latch86_halted (i : Instr) (c : Core86) :
    (latch86 i c).halted = true ↔ c.halted = true ∨ i = .x86Hlt := by
  by_cases hi : i = .x86Hlt
  · rw [latch86_of_eq hi]
    simp [hi]
  · rw [latch86_of_ne hi]
    simp [hi]

theorem latch86_mem (i : Instr) (c : Core86) : (latch86 i c).mem = c.mem := by
  unfold latch86
  split <;> rfl

theorem latch86_fixed (i : Instr) (c : Core86) : Fixed86 c (latch86 i c) := by
  unfold latch86
  split
  · exact ⟨rfl, rfl, rfl, rfl, rfl, rfl, rfl⟩
  · exact .refl c

/-- The operation completes with a status and makes of core86 what `R` relates to the core before, and that core and
the parameters alone decide both. -/
def ActsOn86 (R : Core86 → Core86 → Prop) (f : State → Result) : Prop :=
  ∀ s : State, ∃ c st, R s.core86 c ∧ ∀ s' : State, s'.core86 = s.core86 → s'.params = s.params →
    f s' = .next ((s'.withCore86 c).report st)

theorem ActsOn86.mono {R R' : Core86 → Core86 → Prop} {f : State → Result} (h : ActsOn86 R f)
    (hR : ∀ c d, R c d → R' c d) : ActsOn86 R' f := fun s => by
  obtain ⟨c, st, hc, hf⟩ := h s
  exact ⟨c, st, hR _ _ hc, hf⟩

theorem complete86_acts {R : Core86 → Core86 → Prop} (body : State → Core86)
    (hlocal : ∀ s s' : State, s'.core86 = s.core86 → s'.params = s.params → body s' = body s)
    (hR : ∀ s, R s.core86 ((body s).advanceIP s.params.ipStep)) :
    ActsOn86 R fun s => complete86 s (body s) := fun s =>
  ⟨_, .ok, hR s, fun s' hc hp => by simp only [complete86, hlocal s s' hc hp, hp]⟩

theorem jump86_acts (n : Nat) : ActsOn86 Quiet86 fun s => jump86 s n := fun s =>
  ⟨_, .ok, (Quiet86.refl s.core86).setIP n, fun s' hc _ => by simp only [jump86, hc]⟩

theorem move86_acts (d : Dst86) (src : Opd86) : ActsOn86 Quiet86 (move86 d src) :=
  complete86_acts _ (fun s s' hc _ => by rw [hc]) fun s => ((Quiet86.refl s.core86).write _ _).advanceIP _

theorem binary86_acts (m : Arith86) (d : Dst86) (src : Opd86) : ActsOn86 Quiet86 (binary86 m d src) :=
  complete86_acts _ (fun s s' hc _ => by rw [hc]) fun s =>
    (((Quiet86.refl s.core86).withFlags _ _ _ _).write _ _).advanceIP _

theorem compare86_acts (l r : Opd86) : ActsOn86 Quiet86 (compare86 l r) :=
  complete86_acts _ (fun s s' hc _ => by rw [hc]) fun s => ((Quiet86.refl s.core86).withFlags .cmp _ _ _).advanceIP _

theorem unary86_acts (m : Arith86) (d : Dst86) : ActsOn86 Quiet86 (unary86 m d) :=
  complete86_acts _ (fun s s' hc hp => by rw [hc, hp]) fun s =>
    (((Quiet86.refl s.core86).withFlags _ _ _ _).write _ _).advanceIP _

theorem branch86_acts (taken : Core86 → Bool) (n : Nat) :
    ActsOn86 Quiet86 fun s => branch86 (taken s.core86) n s := fun s => by
  cases ht : taken s.core86 with
  | true => exact ⟨_, .ok, (Quiet86.refl s.core86).setIP n, fun s' hc _ => by simp [branch86, jump86, hc, ht]⟩
  | false =>
    exact ⟨_, .ok, (Quiet86.refl s.core86).advanceIP s.params.ipStep, fun s' hc hp => by
      simp [branch86, complete86, hc, hp, ht]⟩

theorem unknown86_acts : ActsOn86 Quiet86 unknown86 := fun s =>
  ⟨s.core86, .unknownInstruction, .refl _, fun s' hc _ => by rw [← hc]; rfl⟩

theorem hlt86_acts : ActsOn86 (fun c d => Quiet86 c.setHalted d) execX86Hlt :=
  complete86_acts _ (fun s s' hc _ => by rw [hc]) fun s => (Quiet86.refl s.core86.setHalted).advanceIP _

/-- Every instruction of core86 completes, by core86 and the parameters alone, and only HLT does more than write
registers, flags and IP. -/
theorem exec_acts86 {i : Instr} (hi : i.arch = .core86) :
    ActsOn86 (fun c d => Quiet86 (latch86 i c) d) (exec i) := by
  have unlatched : ∀ {f : State → Result}, i ≠ .x86Hlt → ActsOn86 Quiet86 f →
      ActsOn86 (fun c d => Quiet86 (latch86 i c) d) f := fun hne hf =>
    hf.mono fun c d hcd => by rwa [latch86_of_ne hne]
  have form := exec_form86 hi
  generalize exec i = f at form
  cases form with
  | move d src hne => exact unlatched hne (move86_acts d src)
  | binary m d src hne => exact unlatched hne (binary86_acts m d src)
  | compare l r hne => exact unlatched hne (compare86_acts l r)
  | unary m d hne => exact unlatched hne (unary86_acts m d)
  | jump n hne => exact unlatched hne (jump86_acts n)
  | branch taken n hne => exact unlatched hne (branch86_acts taken n)
  | halt heq => exact hlt86_acts.mono fun c d hcd => by rwa [latch86_of_eq heq]
  | unknown hne => exact unlatched hne unknown86_acts

/-! ### core51 -/

/-- The shared operation that performs an instruction of core51. -/
inductive Form51 : (State → Result) → Prop
  | move (d : Loc51) (src : Src51) : Form51 (move51 d src)
  | moveDptr (n : Nat) : Form51 (moveDptr51 n)
  | load (address : Core51 → Nat) : Form51 fun s => loadExternal51 (address s.core51) s
  | store (address : Core51 → Nat) : Form51 fun s => storeExternal51 (address s.core51) s
  | increment (l : Loc51) : Form51 (increment51 l)
  | decrement (l : Loc51) : Form51 (decrement51 l)
  | stepDptr (move : Word → Word) : Form51 fun s => complete51 s (s.core51.setDPTR (move s.core51.DPTR))
  | multiply : Form51 execI51MulAB
  | divide : Form51 execI51DivAB
  | rotate (a : Core51 → Nat) (carry : Core51 → Bool) : Form51 fun s =>
      complete51 s ((s.core51.setA s.params (BitVec.ofNat 8 (a s.core51))).setC (carry s.core51))
  | carry (v : Core51 → Bool) : Form51 fun s => complete51 s (s.core51.setC (v s.core51))
  | jump (n : Nat) : Form51 fun s => jump51 s n
  | branch (taken : Core51 → Bool) (n : Nat) : Form51 fun s => branch51 (taken s.core51) n s

theorem exec_form51 {i : Instr} (hi : i.arch = .core51) : Form51 (exec i) := by
  cases i with
  | i51MovAImm | i51MovBImm | i51MovRnImm | i51MovARn | i51MovRnA | i51MovAB | i51MovBA | i51MovBRn | i51MovRnB
  | i51MovForm => exact .move _ _
  | i51MovDptrImm | i51MovDptrLit => exact .moveDptr _
  | i51MovxADptr => exact .load fun c => c.DPTR.toNat
  | i51MovxARi r => exact .load fun c => c.indirectAddress r
  | i51MovxDptrA => exact .store fun c => c.DPTR.toNat
  | i51MovxRiA r => exact .store fun c => c.indirectAddress r
  | i51IncA | i51IncB | i51IncRn => exact .increment _
  | i51DecA | i51DecB | i51DecRn => exact .decrement _
  | i51IncDptr => exact .stepDptr fun v => v + 1
  | i51DecDptr => exact .stepDptr fun v => v - 1
  | i51MulAB => exact .multiply
  | i51DivAB => exact .divide
  | i51RlcA => exact .rotate (fun c => (c.A.toNat <<< 1) ||| flagBit c.flags.C) fun c => c.A.toNat.testBit 7
  | i51RrcA => exact .rotate (fun c => (c.A.toNat >>> 1) ||| (flagBit c.flags.C <<< 7)) fun c => c.A.toNat.testBit 0
  | i51ClrC => exact .carry fun _ => false
  | i51SetbC => exact .carry fun _ => true
  | i51CplC => exact .carry fun c => !c.flags.C
  | i51Sjmp | i51SjmpLit => exact .jump _
  | i51Jz | i51JzLit => exact .branch (fun c => decide (c.A = 0)) _
  | i51Jnz | i51JnzLit => exact .branch (fun c => decide (c.A ≠ 0)) _
  | i51Jc | i51JcLit => exact .branch (fun c => c.flags.C) _
  | i51Jnc | i51JncLit => exact .branch (fun c => !c.flags.C) _
  | _ => cases hi

/-- core51's part of the invariant: canonical memory, P the parity of A (R38), PC within its width (R34). -/
structure Sound51 (p : Config.Params) (c : Core51) : Prop where
  mem : Memory.wf mem51Size c.mem = true
  parity : c.flags.P = par51 p.parityOdd c.A
  pcWidth : c.PC.toNat < 2 ^ pcBits p.pcWidth

/-- What an instruction of core51 keeps: the inert cells (R35 to R37, R39) and core51's part of the invariant. -/
structure Keeps51 (p : Config.Params) (c d : Core51) : Prop where
  inert : Inert51 c d
  sound : Sound51 p c → Sound51 p d

theorem inert51_refl (c : Core51) : Inert51 c c := ⟨rfl, rfl, rfl, rfl, rfl, rfl, rfl⟩

theorem setPC_pcWidth (p : Config.Params) (c : Core51) (n : Nat) :
    (c.setPC p n).PC.toNat < 2 ^ pcBits p.pcWidth := by
  have hpos : 0 < 2 ^ pcBits p.pcWidth := Nat.two_pow_pos _
  exact lt_of_le_of_lt (Nat.mod_le _ _) (Nat.mod_lt n hpos)

namespace Keeps51

variable {p : Config.Params} {c d : Core51}

theorem refl (p : Config.Params) (c : Core51) : Keeps51 p c c := ⟨inert51_refl c, id⟩

theorem setPC (h : Keeps51 p c d) (n : Nat) : Keeps51 p c (d.setPC p n) :=
  ⟨h.inert, fun hc => ⟨(h.sound hc).mem, (h.sound hc).parity, setPC_pcWidth p d n⟩⟩

theorem advancePC (h : Keeps51 p c d) : Keeps51 p c (d.advancePC p) := h.setPC _

theorem setA (h : Keeps51 p c d) (v : Byte) : Keeps51 p c (d.setA p v) :=
  ⟨h.inert, fun hc => ⟨(h.sound hc).mem, rfl, (h.sound hc).pcWidth⟩⟩

theorem setB (h : Keeps51 p c d) (v : Byte) : Keeps51 p c (d.setB v) :=
  ⟨h.inert, fun hc => ⟨(h.sound hc).mem, (h.sound hc).parity, (h.sound hc).pcWidth⟩⟩

theorem setR (h : Keeps51 p c d) (r : RN) (v : Byte) : Keeps51 p c (d.setR r v) := by
  cases r <;> exact ⟨h.inert, fun hc => ⟨(h.sound hc).mem, (h.sound hc).parity, (h.sound hc).pcWidth⟩⟩

theorem setDPTR (h : Keeps51 p c d) (v : Word) : Keeps51 p c (d.setDPTR v) :=
  ⟨h.inert, fun hc => ⟨(h.sound hc).mem, (h.sound hc).parity, (h.sound hc).pcWidth⟩⟩

theorem setC (h : Keeps51 p c d) (b : Bool) : Keeps51 p c (d.setC b) :=
  ⟨h.inert, fun hc => ⟨(h.sound hc).mem, (h.sound hc).parity, (h.sound hc).pcWidth⟩⟩

theorem setOV (h : Keeps51 p c d) (b : Bool) : Keeps51 p c (d.setOV b) :=
  ⟨h.inert, fun hc => ⟨(h.sound hc).mem, (h.sound hc).parity, (h.sound hc).pcWidth⟩⟩

theorem memWrite (h : Keeps51 p c d) (a : Nat) (v : Byte) : Keeps51 p c (d.memWrite a v) :=
  ⟨h.inert, fun hc => ⟨memWrite51_keeps_wf (h.sound hc).mem a v, (h.sound hc).parity, (h.sound hc).pcWidth⟩⟩

theorem write (h : Keeps51 p c d) (l : Loc51) (v : Nat) : Keeps51 p c (d.write p l v) := by
  cases l with
  | A => exact h.setA _
  | B => exact h.setB _
  | R r => exact h.setR r _

end Keeps51

/-- The operation completes with a status, makes of core51 a core that keeps what every instruction keeps, and core51
and the parameters alone decide both. -/
def ActsOn51 (f : State → Result) : Prop :=
  ∀ s : State, ∃ c st, Keeps51 s.params s.core51 c ∧
    ∀ s' : State, s'.core51 = s.core51 → s'.params = s.params → f s' = .next ((s'.withCore51 c).report st)

theorem complete51_acts (body : State → Core51)
    (hlocal : ∀ s s' : State, s'.core51 = s.core51 → s'.params = s.params → body s' = body s)
    (hkeeps : ∀ s, Keeps51 s.params s.core51 (body s)) : ActsOn51 fun s => complete51 s (body s) := fun s =>
  ⟨_, .ok, (hkeeps s).advancePC, fun s' hc hp => by simp only [complete51, hlocal s s' hc hp, hp]⟩

theorem jump51_acts (n : Nat) : ActsOn51 fun s => jump51 s n := fun s =>
  ⟨_, .ok, (Keeps51.refl s.params s.core51).setPC n, fun s' hc hp => by simp only [jump51, hc, hp]⟩

theorem branch51_acts (taken : Core51 → Bool) (n : Nat) :
    ActsOn51 fun s => branch51 (taken s.core51) n s := fun s => by
  cases ht : taken s.core51 with
  | true =>
    exact ⟨_, .ok, (Keeps51.refl s.params s.core51).setPC n, fun s' hc hp => by
      simp [branch51, jump51, hc, hp, ht]⟩
  | false =>
    exact ⟨_, .ok, (Keeps51.refl s.params s.core51).advancePC, fun s' hc hp => by
      simp [branch51, complete51, hc, hp, ht]⟩

theorem execI51DivAB_acts : ActsOn51 execI51DivAB := fun s => by
  by_cases hB : s.core51.B = 0
  · exact ⟨_, .divByZero, (Keeps51.refl s.params s.core51).setOV true, fun s' hc _ => by
      simp [execI51DivAB, divideByZero51, hc, hB]⟩
  · have hkeeps := Keeps51.refl s.params s.core51
    exact ⟨_, .ok, ((((hkeeps.setA _).setB _).setC _).setOV _).advancePC, fun s' hc hp => by
      rw [execI51DivAB, hc, hp, if_neg hB, complete51, hp]⟩

/-- Every instruction of core51 completes, by core51 and the parameters alone, and keeps the inert cells and core51's
part of the invariant. -/
theorem exec_acts51 {i : Instr} (hi : i.arch = .core51) : ActsOn51 (exec i) := by
  have form := exec_form51 hi
  generalize exec i = f at form
  cases form with
  | move d src => exact complete51_acts _ (fun s s' hc hp => by rw [hc, hp]) fun s => (Keeps51.refl _ _).write _ _
  | moveDptr n => exact complete51_acts _ (fun s s' hc _ => by rw [hc]) fun s => (Keeps51.refl _ _).setDPTR _
  | load address => exact complete51_acts _ (fun s s' hc hp => by rw [hc, hp]) fun s => (Keeps51.refl _ _).write _ _
  | store address => exact complete51_acts _ (fun s s' hc _ => by rw [hc]) fun s => (Keeps51.refl _ _).memWrite _ _
  | increment l => exact complete51_acts _ (fun s s' hc hp => by rw [hc, hp]) fun s => (Keeps51.refl _ _).write _ _
  | decrement l => exact complete51_acts _ (fun s s' hc hp => by rw [hc, hp]) fun s => (Keeps51.refl _ _).write _ _
  | stepDptr move => exact complete51_acts _ (fun s s' hc _ => by rw [hc]) fun s => (Keeps51.refl _ _).setDPTR _
  | multiply =>
    exact complete51_acts _ (fun s s' hc hp => by rw [hc, hp]) fun s =>
      ((((Keeps51.refl _ _).setA _).setB _).setC _).setOV _
  | divide => exact execI51DivAB_acts
  | rotate a carry =>
    exact complete51_acts _ (fun s s' hc hp => by rw [hc, hp]) fun s => ((Keeps51.refl _ _).setA _).setC _
  | carry v => exact complete51_acts _ (fun s s' hc _ => by rw [hc]) fun s => (Keeps51.refl _ _).setC _
  | jump n => exact jump51_acts n
  | branch taken n => exact branch51_acts taken n

/-! ### Both cores -/

/-- A completed instruction changed its own core, as that core's instructions may, and appended a status to the log;
everything else stands (R45). -/
theorem exec_next {i : Instr} {s t : State} (h : exec i s = .next t) :
    (i.arch = .core86 ∧ (∃ st, OnlyCore86 s t st) ∧ Quiet86 (latch86 i s.core86) t.core86) ∨
      (i.arch = .core51 ∧ (∃ st, OnlyCore51 s t st) ∧ Keeps51 s.params s.core51 t.core51) := by
  cases hi : i.arch with
  | core86 =>
    obtain ⟨c, st, hc, hf⟩ := exec_acts86 hi s
    obtain rfl := Host.Outcome.next.inj ((hf s rfl rfl).symm.trans h)
    exact .inl ⟨rfl, ⟨st, rfl, rfl, rfl, rfl, rfl⟩, hc⟩
  | core51 =>
    obtain ⟨c, st, hc, hf⟩ := exec_acts51 hi s
    obtain rfl := Host.Outcome.next.inj ((hf s rfl rfl).symm.trans h)
    exact .inr ⟨rfl, ⟨st, rfl, rfl, rfl, rfl, rfl⟩, hc⟩

end Sys2Proof.Machine
end

section
/-! PROOFS. The half-register invariant of R21. -/

namespace Sys2Proof.Machine

/-- `h` and `l` are the high and the low half of `x` (R20). -/
structure HalvesOf (x : R16) (h l : R8) : Prop where
  get_high (c : Core86) : c.getR8 h = highHalf (c.getR16 x)
  get_low (c : Core86) : c.getR8 l = lowHalf (c.getR16 x)
  set_high (c : Core86) (v : Byte) : (c.setR8 h v).getR16 x = withHigh (c.getR16 x) v
  set_low (c : Core86) (v : Byte) : (c.setR8 l v).getR16 x = withLow (c.getR16 x) v

/-- AX, BX, CX and DX have halves. -/
theorem halvesOf_of_mem {x : R16} {h l : R8}
    (hx : (x, h, l) ∈ [(R16.AX, R8.AH, R8.AL), (R16.BX, R8.BH, R8.BL), (R16.CX, R8.CH, R8.CL),
      (R16.DX, R8.DH, R8.DL)]) : HalvesOf x h l := by
  simp only [List.mem_cons, Prod.mk.injEq, List.not_mem_nil, or_false] at hx
  obtain ⟨rfl, rfl, rfl⟩ | ⟨rfl, rfl, rfl⟩ | ⟨rfl, rfl, rfl⟩ | ⟨rfl, rfl, rfl⟩ := hx <;>
    exact ⟨fun _ => rfl, fun _ => rfl, fun _ _ => rfl, fun _ _ => rfl⟩

/-- A word is its two halves. -/
theorem toNat_eq_halves (x : Word) : x.toNat = 256 * (highHalf x).toNat + (lowHalf x).toNat := by
  rw [highHalf_toNat, lowHalf_toNat]
  omega

theorem withLow_toNat (x : Word) (v : Byte) : (withLow x v).toNat = 256 * (highHalf x).toNat + v.toNat := by
  rw [toNat_eq_halves, highHalf_withLow, lowHalf_withLow]

theorem withHigh_toNat (x : Word) (v : Byte) : (withHigh x v).toNat = 256 * v.toNat + (lowHalf x).toNat := by
  rw [toNat_eq_halves, highHalf_withHigh, lowHalf_withHigh]

/-- Settles O8: each clause is a fact about the halves of one word. -/
theorem halfRegisters86 : Obligations.HalfRegisters86 := by
  intro c x h l v hx
  obtain ⟨getHigh, getLow, setHigh, setLow⟩ := halvesOf_of_mem hx
  simp only [Core86.write, getHigh, getLow, setHigh, setLow, getR16_setR16_same]
  refine ⟨highHalf_toNat _, lowHalf_toNat _, ?_, ?_, BitVec.toNat_ofNat _ _, highHalf_withLow _ _,
    lowHalf_withHigh _ _, ?_, ?_⟩
  · rw [withLow_toNat, BitVec.toNat_ofNat]
  · rw [withHigh_toNat, BitVec.toNat_ofNat]
  · rw [highHalf_toNat, BitVec.toNat_ofNat]
  · rw [lowHalf_toNat, BitVec.toNat_ofNat]
    omega

end Sys2Proof.Machine
end

section
/-! PROOFS. Records resolve to instructions of their own core (R130, R180). -/

namespace Sys2Proof.Machine

theorem pairForm86_arch {ri : R16 → Word → Instr} {bi : R8 → Byte → Instr} {rr : R16 → R16 → Instr}
    {bb : R8 → R8 → Instr} {other : Dst86 → Opd86 → Instr} (hri : ∀ x n, (ri x n).arch = .core86)
    (hbi : ∀ x n, (bi x n).arch = .core86) (hrr : ∀ x y, (rr x y).arch = .core86)
    (hbb : ∀ x y, (bb x y).arch = .core86) (hother : ∀ d src, (other d src).arch = .core86)
    (d : Dst86) (src : Opd86) : (pairForm86 ri bi rr bb other d src).arch = .core86 := by
  unfold pairForm86
  split
  · split
    · exact hri _ _
    · exact hother _ _
  · split
    · exact hbi _ _
    · exact hother _ _
  · exact hrr _ _
  · exact hbb _ _
  · exact hother _ _
  · exact hother _ _

theorem dstForm86_arch {make : Dst86 → Opd86 → Instr} (hmake : ∀ d src, (make d src).arch = .core86)
    {ops : List Opd86} {i : Instr} (h : dstForm86 make ops = some i) : i.arch = .core86 := by
  unfold dstForm86 at h
  split at h
  · obtain ⟨d, -, rfl⟩ := Option.map_eq_some_iff.mp h
    exact hmake _ _
  · cases h

theorem cmpForm86_arch (l r : Opd86) : (cmpForm86 l r).arch = .core86 := by
  unfold cmpForm86
  split
  · exact pairForm86_arch (fun _ _ => rfl) (fun _ _ => rfl) (fun _ _ => rfl) (fun _ _ => rfl) (fun _ _ => rfl) _ _
  · rfl

theorem unaryForm86_arch {r16 : R16 → Instr} {r8 : R8 → Instr} (h16 : ∀ r, (r16 r).arch = .core86)
    (h8 : ∀ r, (r8 r).arch = .core86) {ops : List Opd86} {i : Instr} (h : unaryForm86 r16 r8 ops = some i) :
    i.arch = .core86 := by
  unfold unaryForm86 at h
  split at h
  · exact Option.some.inj h ▸ h16 _
  · exact Option.some.inj h ▸ h8 _
  · cases h

theorem jumpForm86_arch {make : Nat → Instr} (hmake : ∀ n, (make n).arch = .core86) {ops : List Opd86} {i : Instr}
    (h : jumpForm86 make ops = some i) : i.arch = .core86 := by
  unfold jumpForm86 at h
  split at h
  · exact Option.some.inj h ▸ hmake _
  · cases h

/-- A choice between two instructions of a core, such as a row and the form wider than its field. -/
theorem ite_arch {c : Prop} [Decidable c] {x y : Instr} {a : Arch} (hx : x.arch = a) (hy : y.arch = a) :
    (if c then x else y).arch = a := by
  split
  · exact hx
  · exact hy

theorem form86_arch {m : Mnem86} {ops : List Opd86} {i : Instr} (h : form86 m ops = some i) :
    i.arch = .core86 := by
  cases m with
  | mov | add | sub | and | or | xor =>
    exact dstForm86_arch (pairForm86_arch (fun _ _ => rfl) (fun _ _ => rfl) (fun _ _ => rfl) (fun _ _ => rfl)
      fun _ _ => rfl) h
  | cmp =>
    simp only [form86] at h
    split at h
    · exact Option.some.inj h ▸ cmpForm86_arch _ _
    · cases h
  | inc | dec => exact unaryForm86_arch (fun _ => rfl) (fun _ => rfl) h
  | jmp | je | jz | jne | jnz => exact jumpForm86_arch (fun _ => ite_arch rfl rfl) h
  | hlt =>
    simp only [form86] at h
    split at h
    · exact Option.some.inj h ▸ rfl
    · cases h
  | div => exact Option.some.inj h ▸ rfl

theorem movForm51_arch (d : Loc51) (src : Src51) : (movForm51 d src).arch = .core51 := by
  unfold movForm51
  split
  · exact ite_arch rfl rfl
  · exact ite_arch rfl rfl
  · exact ite_arch rfl rfl
  all_goals rfl

theorem stepForm51_arch {a b dptr : Instr} {r : RN → Instr} (ha : a.arch = .core51) (hb : b.arch = .core51)
    (hr : ∀ n, (r n).arch = .core51) (hdptr : dptr.arch = .core51) {ops : List Cls51} {i : Instr}
    (h : stepForm51 a b r dptr ops = some i) : i.arch = .core51 := by
  unfold stepForm51 at h
  split at h
  · exact Option.some.inj h ▸ ha
  · exact Option.some.inj h ▸ hb
  · exact Option.some.inj h ▸ hr _
  · exact Option.some.inj h ▸ hdptr
  · cases h

theorem jumpForm51_arch {row : Byte → Instr} {wide : Nat → Instr} (hrow : ∀ t, (row t).arch = .core51)
    (hwide : ∀ n, (wide n).arch = .core51) {ops : List Cls51} {i : Instr} (h : jumpForm51 row wide ops = some i) :
    i.arch = .core51 := by
  unfold jumpForm51 at h
  split at h
  · exact Option.some.inj h ▸ ite_arch (hrow _) (hwide _)
  · exact Option.some.inj h ▸ ite_arch (hrow _) (hwide _)
  · cases h

theorem only51_arch {c : Cls51} {x : Instr} (hx : x.arch = .core51) {ops : List Cls51} {i : Instr}
    (h : only51 c x ops = some i) : i.arch = .core51 := by
  unfold only51 at h
  split at h
  · exact Option.some.inj h ▸ hx
  · cases h

theorem form51_arch {m : Mnem51} {ops : List Cls51} {i : Instr} (h : form51 m ops = some i) :
    i.arch = .core51 := by
  cases m with
  | mov =>
    simp only [form51] at h
    split at h
    · exact Option.some.inj h ▸ movForm51_arch _ _
    · exact Option.some.inj h ▸ movForm51_arch _ _
    · exact Option.some.inj h ▸ ite_arch rfl rfl
    · cases h
  | movx =>
    simp only [form51] at h
    split at h
    · exact Option.some.inj h ▸ rfl
    · exact Option.some.inj h ▸ rfl
    · exact Option.some.inj h ▸ rfl
    · exact Option.some.inj h ▸ rfl
    · cases h
  | inc | dec => exact stepForm51_arch rfl rfl (fun _ => rfl) rfl h
  | mul | div | rlc | rrc | clr | setb | cpl => exact only51_arch rfl h
  | sjmp | jz | jnz | jc | jnc => exact jumpForm51_arch (fun _ => rfl) (fun _ => rfl) h

/-- A record resolves to an instruction of the core it is resolved on. -/
theorem resolve_arch {a : Arch} {r : Record} {i : Instr} (h : resolve a r = .ok i) : i.arch = a := by
  cases a with
  | core86 =>
    simp only [resolve, resolve86] at h
    split at h
    · cases h
    · exact Except.ok.inj h ▸ rfl
    · split at h
      · cases h
      · split at h
        · next hform => exact Except.ok.inj h ▸ form86_arch hform
        · cases h
  | core51 =>
    simp only [resolve, resolve51] at h
    split at h
    · cases h
    · split at h
      · cases h
      · split at h
        · next hform => exact Except.ok.inj h ▸ form51_arch hform
        · cases h

end Sys2Proof.Machine
end

section
/-! PROOFS. What a step and a transaction can do (R265 to R267, R276), and the statements about the cells of the two
cores. -/

namespace Sys2Proof.Machine

open Sys2Proof.Safety

/-! ### Steps and transactions -/

theorem executeRecord_next {a : Arch} {r : Record} {s t : State} :
    executeRecord a r s = .next t ↔ ∃ i, resolve a r = .ok i ∧ exec i s = .next t := by
  unfold executeRecord
  cases resolve a r with
  | ok i => simp
  | error e => simp

/-- A step leaves the state alone, or executes the instruction of the entry at the cursor and moves the cursor. -/
theorem step_next {s t : State} (h : step s = .next t) :
    t = s ∨ ∃ r i u, s.session.listing[s.session.cursor]? = some r ∧ haltCheck s.session.selected s = false ∧
      resolve s.session.selected r = .ok i ∧ exec i s = .next u ∧ t = advanceCursor u := by
  unfold step stepSession at h
  split at h
  · exact .inl (Host.Outcome.next.inj h).symm
  · next r hentry =>
    split at h
    · exact .inl (Host.Outcome.next.inj h).symm
    · next hrun =>
      split at h
      · next u hexec =>
        obtain ⟨i, hresolve, hi⟩ := executeRecord_next.mp hexec
        exact .inr ⟨r, i, u, hentry, by simpa using hrun, hresolve, hi, (Host.Outcome.next.inj h).symm⟩
      · cases h
      · cases h

theorem loadFrom86_fixed (bytes : List Byte) (base : Nat) (c : Core86) :
    Fixed86 c (c.loadFrom base bytes) ∧ (c.loadFrom base bytes).halted = c.halted := by
  rw [loadFrom86_only_mem]
  exact ⟨⟨rfl, rfl, rfl, rfl, rfl, rfl, rfl⟩, rfl⟩

theorem loadFrom51_inert (bytes : List Byte) (base : Nat) (c : Core51) : Inert51 c (c.loadFrom base bytes) := by
  rw [loadFrom51_only_mem]
  exact inert51_refl c

/-- A transaction of the block leaves the parameters, the reset records and the core it is not applied to. -/
theorem perform_frame {x : Transaction} {s t : State} (h : perform x s = .next t) :
    t.params = s.params ∧ t.resetRecord86 = s.resetRecord86 ∧ t.resetRecord51 = s.resetRecord51 ∧
      (transactionCore x = .core86 → t.core51 = s.core51) ∧
      (transactionCore x = .core51 → t.core86 = s.core86) := by
  cases x with
  | reset a =>
    obtain rfl := Host.Outcome.next.inj h
    cases a with
    | core86 => exact ⟨rfl, rfl, rfl, fun _ => rfl, nofun⟩
    | core51 => exact ⟨rfl, rfl, rfl, nofun, fun _ => rfl⟩
  | loadProgram a bytes =>
    obtain rfl := Host.Outcome.next.inj h
    cases a with
    | core86 => exact ⟨rfl, rfl, rfl, fun _ => rfl, nofun⟩
    | core51 => exact ⟨rfl, rfl, rfl, nofun, fun _ => rfl⟩
  | loadExternalMemory address values =>
    obtain rfl := Host.Outcome.next.inj h
    exact ⟨rfl, rfl, rfl, nofun, fun _ => rfl⟩
  | writeMemory a address value =>
    obtain rfl := Host.Outcome.next.inj h
    cases a with
    | core86 => exact ⟨rfl, rfl, rfl, fun _ => rfl, nofun⟩
    | core51 => exact ⟨rfl, rfl, rfl, nofun, fun _ => rfl⟩
  | execute a r =>
    obtain ⟨i, hr, hi⟩ := executeRecord_next.mp h
    obtain rfl : i.arch = a := resolve_arch hr
    obtain ⟨harch, ⟨st, hcore, hp, h86, h51, -⟩, -⟩ | ⟨harch, ⟨st, hcore, hp, h86, h51, -⟩, -⟩ :=
      exec_next hi
    · exact ⟨hp, h86, h51, fun _ => hcore, fun h' => absurd (harch.symm.trans h') nofun⟩
    · exact ⟨hp, h86, h51, fun h' => absurd (harch.symm.trans h') nofun, fun _ => hcore⟩

/-- The cells of core86 that no transaction but a reset of core86 writes, and the latch, which HLT alone sets. -/
structure Settled86 (x : Transaction) (c d : Core86) : Prop extends Fixed86 c d where
  halted : d.halted = c.halted ∨
    d.halted = true ∧ ∃ r, x = .execute .core86 r ∧ resolve .core86 r = .ok .x86Hlt

theorem Quiet86.settled {i : Instr} {r : Record} {c d : Core86} (hr : resolve .core86 r = .ok i)
    (h : Quiet86 (latch86 i c) d) : Settled86 (.execute .core86 r) c d := by
  have hc := latch86_fixed i c
  refine ⟨⟨h.CS.trans hc.CS, h.DS.trans hc.DS, h.ES.trans hc.ES, h.SS.trans hc.SS, h.IF.trans hc.IF,
    h.DF.trans hc.DF, h.TF.trans hc.TF⟩, ?_⟩
  by_cases hi : i = .x86Hlt
  · subst hi
    exact .inr ⟨h.halted.trans ((latch86_halted _ c).mpr (.inr rfl)), r, rfl, hr⟩
  · rw [latch86_of_ne hi] at h
    exact .inl h.halted

theorem perform_settled86 {x : Transaction} {s t : State} (h : perform x s = .next t)
    (hx : x ≠ .reset .core86) : Settled86 x s.core86 t.core86 := by
  obtain ⟨-, -, -, -, hother⟩ := perform_frame h
  cases hcore : transactionCore x with
  | core51 =>
    rw [hother hcore]
    exact ⟨.refl _, .inl rfl⟩
  | core86 =>
    cases x with
    | reset a => exact absurd (congrArg Transaction.reset hcore) hx
    | loadProgram a bytes =>
      obtain rfl : a = .core86 := hcore
      obtain rfl := Host.Outcome.next.inj h
      obtain ⟨hfixed, hhalted⟩ := loadFrom86_fixed bytes 0 s.core86
      exact ⟨⟨hfixed.CS, hfixed.DS, hfixed.ES, hfixed.SS, hfixed.IF, hfixed.DF, hfixed.TF⟩, .inl hhalted⟩
    | loadExternalMemory address values => cases hcore
    | writeMemory a address value =>
      obtain rfl : a = .core86 := hcore
      obtain rfl := Host.Outcome.next.inj h
      exact ⟨⟨rfl, rfl, rfl, rfl, rfl, rfl, rfl⟩, .inl rfl⟩
    | execute a r =>
      obtain rfl : a = .core86 := hcore
      obtain ⟨i, hr, hi⟩ := executeRecord_next.mp h
      obtain ⟨-, -, hquiet⟩ | ⟨harch, -⟩ := exec_next hi
      · exact hquiet.settled hr
      · exact absurd (harch.symm.trans (resolve_arch hr)) nofun

theorem perform_inert51 {x : Transaction} {s t : State} (h : perform x s = .next t)
    (hx : x ≠ .reset .core51) : Inert51 s.core51 t.core51 := by
  obtain ⟨-, -, -, hother, -⟩ := perform_frame h
  cases hcore : transactionCore x with
  | core86 =>
    rw [hother hcore]
    exact inert51_refl _
  | core51 =>
    cases x with
    | reset a => exact absurd (congrArg Transaction.reset hcore) hx
    | loadProgram a bytes =>
      obtain rfl : a = .core51 := hcore
      obtain rfl := Host.Outcome.next.inj h
      exact loadFrom51_inert bytes 0 s.core51
    | loadExternalMemory address values =>
      obtain rfl := Host.Outcome.next.inj h
      exact loadFrom51_inert values address s.core51
    | writeMemory a address value =>
      obtain rfl : a = .core51 := hcore
      obtain rfl := Host.Outcome.next.inj h
      exact inert51_refl _
    | execute a r =>
      obtain rfl : a = .core51 := hcore
      obtain ⟨i, hr, hi⟩ := executeRecord_next.mp h
      obtain ⟨harch, -⟩ | ⟨-, -, hkeeps⟩ := exec_next hi
      · exact absurd (harch.symm.trans (resolve_arch hr)) nofun
      · exact hkeeps.inert

/-- What a transaction makes of core86 depends on core86, its reset record and the parameters only. -/
theorem perform_local86 {x : Transaction} {s s' t : State} (h : perform x s = .next t)
    (hx : transactionCore x = .core86) (hcore : s'.core86 = s.core86) (hparams : s'.params = s.params)
    (hrecord : s'.resetRecord86 = s.resetRecord86) : ∃ t', perform x s' = .next t' ∧ t'.core86 = t.core86 := by
  cases x with
  | reset a =>
    obtain rfl : a = .core86 := hx
    obtain rfl := Host.Outcome.next.inj h
    exact ⟨_, rfl, by simp [resetCore, resetCore86, hrecord]⟩
  | loadProgram a bytes =>
    obtain rfl : a = .core86 := hx
    obtain rfl := Host.Outcome.next.inj h
    exact ⟨_, rfl, by simp only [loadProgram, State.withCore86_core86, hcore]⟩
  | loadExternalMemory address values => cases hx
  | writeMemory a address value =>
    obtain rfl : a = .core86 := hx
    obtain rfl := Host.Outcome.next.inj h
    exact ⟨_, rfl, by simp only [writeMemory, State.withCore86_core86, hcore]⟩
  | execute a r =>
    obtain rfl : a = .core86 := hx
    obtain ⟨i, hr, hi⟩ := executeRecord_next.mp h
    obtain ⟨c, st, -, hexec⟩ := exec_acts86 (resolve_arch hr) s
    obtain rfl := Host.Outcome.next.inj ((hexec s rfl rfl).symm.trans hi)
    exact ⟨_, executeRecord_next.mpr ⟨i, hr, hexec s' hcore hparams⟩, rfl⟩

/-- What a transaction makes of core51 depends on core51, its reset record and the parameters only. -/
theorem perform_local51 {x : Transaction} {s s' t : State} (h : perform x s = .next t)
    (hx : transactionCore x = .core51) (hcore : s'.core51 = s.core51) (hparams : s'.params = s.params)
    (hrecord : s'.resetRecord51 = s.resetRecord51) : ∃ t', perform x s' = .next t' ∧ t'.core51 = t.core51 := by
  cases x with
  | reset a =>
    obtain rfl : a = .core51 := hx
    obtain rfl := Host.Outcome.next.inj h
    exact ⟨_, rfl, by simp [resetCore, resetCore51, hrecord, hparams]⟩
  | loadProgram a bytes =>
    obtain rfl : a = .core51 := hx
    obtain rfl := Host.Outcome.next.inj h
    exact ⟨_, rfl, by simp only [loadProgram, State.withCore51_core51, hcore, hparams]⟩
  | loadExternalMemory address values =>
    obtain rfl := Host.Outcome.next.inj h
    exact ⟨_, rfl, by simp only [loadExternalMemory, State.withCore51_core51, hcore]⟩
  | writeMemory a address value =>
    obtain rfl : a = .core51 := hx
    obtain rfl := Host.Outcome.next.inj h
    exact ⟨_, rfl, by simp only [writeMemory, State.withCore51_core51, hcore]⟩
  | execute a r =>
    obtain rfl : a = .core51 := hx
    obtain ⟨i, hr, hi⟩ := executeRecord_next.mp h
    obtain ⟨c, st, -, hexec⟩ := exec_acts51 (resolve_arch hr) s
    obtain rfl := Host.Outcome.next.inj ((hexec s rfl rfl).symm.trans hi)
    exact ⟨_, executeRecord_next.mpr ⟨i, hr, hexec s' hcore hparams⟩, rfl⟩

/-! ### The invariant -/

theorem invariant_iff (s : State) :
    Invariant s ↔ Memory.wf mem86Size s.core86.mem = true ∧ Sound51 s.params s.core51 ∧
      Memory.wf mem86Size s.resetRecord86.mem = true ∧ Memory.wf mem51Size s.resetRecord51.mem = true :=
  ⟨fun h => ⟨h.mem86, ⟨h.mem51, h.parity, h.pcWidth⟩, h.resetMem86, h.resetMem51⟩,
    fun ⟨h86, h51, hr86, hr51⟩ => ⟨h86, h51.mem, hr86, hr51, h51.parity, h51.pcWidth⟩⟩

/-- Every instruction keeps the invariant: on core86 the memory stands, on core51 each write keeps core51's part. -/
theorem exec_keeps_invariant {i : Instr} {s t : State} (hs : Invariant s) (h : exec i s = .next t) :
    Invariant t := by
  obtain ⟨hmem, hsound, hr86, hr51⟩ := (invariant_iff s).mp hs
  rw [invariant_iff]
  obtain ⟨-, ⟨st, hcore, hp, h86, h51, -⟩, hquiet⟩ | ⟨-, ⟨st, hcore, hp, h86, h51, -⟩, hkeeps⟩ :=
    exec_next h
  · rw [hcore, hp, h86, h51, hquiet.mem, latch86_mem]
    exact ⟨hmem, hsound, hr86, hr51⟩
  · rw [hcore, hp, h86, h51]
    exact ⟨hmem, hkeeps.sound hsound, hr86, hr51⟩

/-- Settles O35: a step that is more than a skip is one instruction and a move of the cursor. -/
theorem stepKeepsInvariant : Obligations.StepKeepsInvariant := by
  intro s t hs h
  obtain rfl | ⟨r, i, u, -, -, -, hi, rfl⟩ := step_next h
  · exact hs
  · have hu := exec_keeps_invariant hs hi
    exact ⟨hu.mem86, hu.mem51, hu.resetMem86, hu.resetMem51, hu.parity, hu.pcWidth⟩

/-- Settles O37: the default records are zero, so both memories are empty, P is the parity of 0, and PC is 0. -/
theorem resetSatisfiesInvariant : Obligations.ResetSatisfiesInvariant := by
  obtain ⟨h86, h51⟩ := reset_memory_wf
  exact ⟨h86, h51, h86, h51, by decide, by decide⟩

theorem par51_iff (odd : Bool) (v : Byte) :
    par51 odd v = true ↔ setBits v.toNat % 2 = if odd = true then 1 else 0 := by
  cases odd <;> simp [par51, popcount8_eq_setBits]

/-- Settles O41, by the invariant after the step. -/
theorem parityOfAccumulator : Obligations.ParityOfAccumulator := by
  intro s t hs h
  rw [(stepKeepsInvariant s t hs h).parity]
  exact par51_iff _ _

/-! ### Inert cells, the latch, isolation -/

/-- Settles O31: what no transaction but a reset writes, on each core. -/
theorem inertCells : Obligations.InertCells := by
  intro x s t h
  refine ⟨fun hx => ?_, perform_inert51 h⟩
  obtain ⟨⟨hCS, hDS, hES, hSS, hIF, hDF, hTF⟩, hhalted⟩ := perform_settled86 h hx
  refine ⟨hCS, hDS, hES, hSS, hIF, hDF, hTF, fun hs => ?_⟩
  obtain hkept | ⟨hset, -⟩ := hhalted
  · exact hkept.trans hs
  · exact hset

theorem exec_halted {i : Instr} {s t : State} (h : exec i s = .next t) :
    t.core86.halted = true ↔ s.core86.halted = true ∨ i = .x86Hlt := by
  obtain ⟨-, -, hquiet⟩ | ⟨harch, ⟨st, hcore, -⟩, -⟩ := exec_next h
  · rw [hquiet.halted, latch86_halted]
  · have hi : i ≠ .x86Hlt := fun heq => absurd harch (heq ▸ nofun)
    simp [hcore, hi]

/-- Settles O32: HLT is the one instruction whose form writes the latch. -/
theorem haltLatch : Obligations.HaltLatch := by
  refine ⟨fun i s t => exec_halted, fun s => rfl, fun x s t h hx hchanged => ?_⟩
  obtain hkept | ⟨-, hhlt⟩ := (perform_settled86 h hx).halted
  · exact absurd hkept hchanged
  · exact hhlt

/-- Settles O34: the frame and the locality of each transaction. -/
theorem coresIsolated : Obligations.CoresIsolated :=
  ⟨fun _ _ _ => perform_frame, fun _ _ _ _ => perform_local86, fun _ _ _ _ => perform_local51,
    fun _ _ => ⟨rfl, rfl⟩⟩

end Sys2Proof.Machine
end

section
/-! PROOFS. Instructions and the two memories (R63): what keeps core51's memory, and that no instruction of core86 sees
its own. -/

namespace Sys2Proof.Machine

open Sys2Proof.Safety

/-! ### core51: only the two stores write memory -/

/-- The operation leaves core51's memory as it was. -/
def KeepsMemory51 (f : State → Result) : Prop := ∀ s t : State, f s = .next t → t.core51.mem = s.core51.mem

@[simp] theorem Core51.write_mem (c : Core51) (p : Config.Params) (l : Loc51) (v : Nat) :
    (c.write p l v).mem = c.mem := by
  obtain ⟨-, -, -, -, -, hmem⟩ := write51_keeps c p l v
  exact hmem

theorem complete51_keepsMemory (body : State → Core51) (hbody : ∀ s, (body s).mem = s.core51.mem) :
    KeepsMemory51 fun s => complete51 s (body s) := by
  intro s t h
  rw [(complete51_next s t _).mp h]
  exact hbody s

theorem jump51_keepsMemory (n : Nat) : KeepsMemory51 fun s => jump51 s n := by
  intro s t h
  rw [(jump51_next s t n).mp h]
  rfl

theorem branch51_keepsMemory (taken : State → Bool) (n : Nat) :
    KeepsMemory51 fun s => branch51 (taken s) n s := by
  intro s t h
  obtain ⟨-, rfl⟩ | ⟨-, rfl⟩ := (branch51_next _ n s t).mp h <;> rfl

theorem move51_keepsMemory (d : Loc51) (src : Src51) : KeepsMemory51 (move51 d src) :=
  complete51_keepsMemory _ fun _ => Core51.write_mem ..

theorem moveDptr51_keepsMemory (n : Nat) : KeepsMemory51 (moveDptr51 n) :=
  complete51_keepsMemory _ fun _ => rfl

theorem loadExternal51_keepsMemory (address : State → Nat) :
    KeepsMemory51 fun s => loadExternal51 (address s) s :=
  complete51_keepsMemory _ fun _ => Core51.write_mem ..

theorem increment51_keepsMemory (l : Loc51) : KeepsMemory51 (increment51 l) :=
  complete51_keepsMemory _ fun _ => Core51.write_mem ..

theorem decrement51_keepsMemory (l : Loc51) : KeepsMemory51 (decrement51 l) :=
  complete51_keepsMemory _ fun _ => Core51.write_mem ..

theorem execI51DivAB_keepsMemory : KeepsMemory51 execI51DivAB := by
  intro s t h
  unfold execI51DivAB at h
  split at h
  · rw [(divideByZero51_next s t).mp h]
    rfl
  · rw [(complete51_next s t _).mp h]
    rfl

/-- Every instruction of core51 but MOVX to memory keeps its memory (R63). -/
theorem exec_keepsMemory51 {i : Instr} (hi : i.arch = .core51) (hstore : storesMemory i = false) :
    KeepsMemory51 (exec i) := by
  cases i with
  | i51MovxDptrA | i51MovxRiA => cases hstore
  | i51MovAImm | i51MovBImm | i51MovRnImm | i51MovARn | i51MovRnA | i51MovAB | i51MovBA | i51MovBRn | i51MovRnB
  | i51MovForm => exact move51_keepsMemory _ _
  | i51MovDptrImm | i51MovDptrLit => exact moveDptr51_keepsMemory _
  | i51MovxADptr => exact loadExternal51_keepsMemory fun s => s.core51.DPTR.toNat
  | i51MovxARi r => exact loadExternal51_keepsMemory fun s => s.core51.indirectAddress r
  | i51IncA | i51IncB | i51IncRn => exact increment51_keepsMemory _
  | i51DecA | i51DecB | i51DecRn => exact decrement51_keepsMemory _
  | i51DivAB => exact execI51DivAB_keepsMemory
  | i51IncDptr | i51DecDptr | i51MulAB | i51RlcA | i51RrcA | i51ClrC | i51SetbC | i51CplC =>
    exact complete51_keepsMemory _ fun _ => rfl
  | i51Sjmp | i51SjmpLit => exact jump51_keepsMemory _
  | i51Jz | i51JzLit | i51Jnz | i51JnzLit | i51Jc | i51JcLit | i51Jnc | i51JncLit =>
    exact branch51_keepsMemory _ _
  | _ => cases hi

/-! ### core86: no instruction sees its memory -/

/-- core86 with another memory. -/
def Core86.withMem (c : Core86) (m : Memory) : Core86 := { c with mem := m }

/-- The state with another memory of core86. -/
def State.withMem86 (s : State) (m : Memory) : State := s.withCore86 (s.core86.withMem m)

@[simp] theorem State.withMem86_core86 (s : State) (m : Memory) : (s.withMem86 m).core86 = s.core86.withMem m := rfl

@[simp] theorem State.withMem86_params (s : State) (m : Memory) : (s.withMem86 m).params = s.params := rfl

@[simp] theorem Core86.withMem_flags (c : Core86) (m : Memory) : (c.withMem m).flags = c.flags := rfl

@[simp] theorem Core86.withMem_val (c : Core86) (m : Memory) (o : Opd86) : (c.withMem m).val o = c.val o := by
  cases o with
  | r8 r => cases r <;> rfl
  | r16 r => cases r <;> rfl
  | lit n => rfl

@[simp] theorem Core86.withMem_withFlags (c : Core86) (m : Memory) (f : Flags86) :
    (c.withMem m).withFlags f = (c.withFlags f).withMem m := rfl

@[simp] theorem Core86.withMem_write (c : Core86) (m : Memory) (d : Dst86) (v : Nat) :
    (c.withMem m).write d v = (c.write d v).withMem m := by
  cases d with
  | r8 r => cases r <;> rfl
  | r16 r => cases r <;> rfl

/-- The operation does the same whatever core86's memory holds, and carries that memory along. -/
def MemoryBlind86 (f : State → Result) : Prop :=
  ∀ (s t : State) (m : Memory), f s = .next t → f (s.withMem86 m) = .next (t.withMem86 m)

theorem complete86_memoryBlind (body : State → Core86)
    (hbody : ∀ s m, body (s.withMem86 m) = (body s).withMem m) :
    MemoryBlind86 fun s => complete86 s (body s) := by
  intro s t m h
  rw [(complete86_next s t _).mp h]
  simp only [hbody]
  rfl

theorem jump86_memoryBlind (n : Nat) : MemoryBlind86 fun s => jump86 s n := by
  intro s t m h
  rw [(jump86_next s t n).mp h]
  rfl

/-- The jumps of R161 to R164 look at ZF alone. -/
theorem branch86_memoryBlind (taken : Bool → Bool) (n : Nat) :
    MemoryBlind86 fun s => branch86 (taken s.core86.flags.ZF) n s := by
  intro s t m h
  rw [branch86_next] at h ⊢
  obtain ⟨htaken, rfl⟩ | ⟨htaken, rfl⟩ := h
  · exact .inl ⟨htaken, rfl⟩
  · exact .inr ⟨htaken, rfl⟩

theorem unknown86_memoryBlind : MemoryBlind86 unknown86 := by
  intro s t m h
  rw [(unknown86_next s t).mp h]
  rfl

theorem move86_memoryBlind (d : Dst86) (src : Opd86) : MemoryBlind86 (move86 d src) :=
  complete86_memoryBlind _ fun s m => by simp

theorem binary86_memoryBlind (a : Arith86) (d : Dst86) (src : Opd86) : MemoryBlind86 (binary86 a d src) :=
  complete86_memoryBlind _ fun s m => by simp

theorem compare86_memoryBlind (l r : Opd86) : MemoryBlind86 (compare86 l r) :=
  complete86_memoryBlind _ fun s m => by simp

theorem unary86_memoryBlind (a : Arith86) (d : Dst86) : MemoryBlind86 (unary86 a d) :=
  complete86_memoryBlind _ fun s m => by simp

/-- `Form86` forgets what a branch looks at, so the conditional jumps are told apart here once more. -/
theorem exec_memoryBlind86 {i : Instr} (hi : i.arch = .core86) : MemoryBlind86 (exec i) := by
  cases i with
  | x86MovR16Imm16 | x86MovR8Imm8 | x86MovR16R16 | x86MovR8R8 | x86MovForm => exact move86_memoryBlind _ _
  | x86AddR16Imm16 | x86AddR8Imm8 | x86AddR16R16 | x86AddR8R8 | x86AddForm
  | x86SubR16Imm16 | x86SubR8Imm8 | x86SubR16R16 | x86SubR8R8 | x86SubForm
  | x86AndR16Imm16 | x86AndR8Imm8 | x86AndR16R16 | x86AndR8R8 | x86AndForm
  | x86OrR16Imm16 | x86OrR8Imm8 | x86OrR16R16 | x86OrR8R8 | x86OrForm
  | x86XorR16Imm16 | x86XorR8Imm8 | x86XorR16R16 | x86XorR8R8 | x86XorForm => exact binary86_memoryBlind _ _ _
  | x86CmpR16Imm16 | x86CmpR8Imm8 | x86CmpR16R16 | x86CmpR8R8 | x86CmpForm => exact compare86_memoryBlind _ _
  | x86IncR16 | x86IncR8 | x86DecR16 | x86DecR8 => exact unary86_memoryBlind _ _
  | x86Jmp | x86JmpLit => exact jump86_memoryBlind _
  | x86Je | x86JeLit | x86Jz | x86JzLit => exact branch86_memoryBlind (fun zf => zf) _
  | x86Jne | x86JneLit | x86Jnz | x86JnzLit => exact branch86_memoryBlind (fun zf => !zf) _
  | x86Hlt => exact complete86_memoryBlind _ fun _ _ => rfl
  | x86Div => exact unknown86_memoryBlind
  | _ => cases hi

/-- What holds of core86's own instructions holds of core51's, which see core51 and the parameters alone (R45). -/
theorem exec_memoryBlind (i : Instr) : MemoryBlind86 (exec i) := by
  cases hi : i.arch with
  | core86 => exact exec_memoryBlind86 hi
  | core51 =>
    intro s t m h
    obtain ⟨c, st, -, hf⟩ := exec_acts51 hi s
    obtain rfl := Host.Outcome.next.inj ((hf s rfl rfl).symm.trans h)
    exact hf (s.withMem86 m) rfl rfl

/-! ### Both memories -/

theorem exec_mem86 {i : Instr} {s t : State} (h : exec i s = .next t) : t.core86.mem = s.core86.mem := by
  obtain ⟨-, -, hquiet⟩ | ⟨-, ⟨st, hcore, -⟩, -⟩ := exec_next h
  · rw [hquiet.mem, latch86_mem]
  · rw [hcore]

theorem exec_mem51 {i : Instr} {s t : State} (h : exec i s = .next t) (hstore : storesMemory i = false) :
    t.core51.mem = s.core51.mem := by
  obtain ⟨-, ⟨st, hcore, -⟩, -⟩ | ⟨hi, -, -⟩ := exec_next h
  · rw [hcore]
  · exact exec_keepsMemory51 hi hstore s t h

/-- Settles O33. -/
theorem instructionsAndMemory : Obligations.InstructionsAndMemory :=
  fun i s t h => ⟨exec_mem86 h, exec_mem51 h, fun m => exec_memoryBlind i s t m h⟩

end Sys2Proof.Machine
end

section
/-! PROOFS. The byte order of 2-byte fields (R65): in the tables, in the field functions, in the encoder. -/

namespace Sys2Proof.Machine

/-! ### The tables -/

/-- Every entry of the row puts the low byte first. -/
def LittleEndian (row : List Entry) : Prop := ∀ e ∈ row, e.bigEndian = false

@[simp] theorem littleEndian_nil : LittleEndian [] := nofun

@[simp] theorem littleEndian_append (row row' : List Entry) :
    LittleEndian (row ++ row') ↔ LittleEndian row ∧ LittleEndian row' := List.forall_mem_append

theorem littleEndian_map {α : Type} (l : List α) (make : α → Entry) (h : ∀ a, (make a).bigEndian = false) :
    LittleEndian (l.map make) := List.forall_mem_map.mpr fun a _ => h a

@[simp] theorem rowR16Imm16_littleEndian (m : Token) (lead : R16 → List Byte) (len : Nat) :
    LittleEndian (rowR16Imm16 m lead len) := littleEndian_map _ _ fun _ => rfl

@[simp] theorem rowR8Imm8_littleEndian (m : Token) (lead : R8 → List Byte) (len : Nat) :
    LittleEndian (rowR8Imm8 m lead len) := littleEndian_map _ _ fun _ => rfl

@[simp] theorem rowR16R16_littleEndian (m : Token) (op : Byte) : LittleEndian (rowR16R16 m op) := by
  intro e he
  obtain ⟨d, -, hd⟩ := List.mem_flatMap.mp he
  exact littleEndian_map _ _ (fun _ => rfl) e hd

@[simp] theorem rowR8R8_littleEndian (m : Token) (op : Byte) : LittleEndian (rowR8R8 m op) := by
  intro e he
  obtain ⟨d, -, hd⟩ := List.mem_flatMap.mp he
  exact littleEndian_map _ _ (fun _ => rfl) e hd

@[simp] theorem rowR16_littleEndian (m : Token) (lead : R16 → List Byte) (len : Nat) :
    LittleEndian (rowR16 m lead len) := littleEndian_map _ _ fun _ => rfl

@[simp] theorem rowR8_littleEndian (m : Token) (lead : R8 → List Byte) (len : Nat) :
    LittleEndian (rowR8 m lead len) := littleEndian_map _ _ fun _ => rfl

@[simp] theorem rowOne_littleEndian (m : Token) (lead : List Byte) (len : Nat) (template : List Pattern) :
    LittleEndian (rowOne m lead len template) := List.forall_mem_singleton.mpr rfl

/-- Every row of R106 is little-endian, by its schema. -/
theorem optab86_littleEndian : LittleEndian (tableEntries optab86) := by
  simp [tableEntries, optab86]

/-- The entry has a 2-byte placeholder. -/
def hasWideField (e : Entry) : Bool :=
  e.template.any fun
    | .fixed _ => false
    | .field _ p => placeholderSize p == 2

theorem hasWideField_of_mem {e : Entry} {marker : Bool} {p : Placeholder}
    (hmem : Pattern.field marker p ∈ e.template) (hsize : placeholderSize p = 2) : hasWideField e = true :=
  List.any_eq_true.mpr ⟨_, hmem, beq_iff_eq.mpr hsize⟩

/-- `MOV DPTR, #imm16`, row Y4 (R107). -/
def movDptrEntry : Entry :=
  { mnemonic := tok "MOV", lead := [0x90], len := 3, template := [.fixed (tok "DPTR"), .field true .imm16]
    bigEndian := true }

theorem optab51_wide_entries : (tableEntries optab51).filter hasWideField = [movDptrEntry] := by decide

theorem eq_movDptrEntry_of_wide {e : Entry} (he : e ∈ tableEntries optab51) (hwide : hasWideField e = true) :
    e = movDptrEntry := by
  have hmem : e ∈ (tableEntries optab51).filter hasWideField := List.mem_filter.mpr ⟨he, hwide⟩
  rwa [optab51_wide_entries, List.mem_singleton] at hmem

/-! ### Fields -/

theorem littleBytes_two (v : Nat) : littleBytes 2 v = [BitVec.ofNat 8 (v % 256), BitVec.ofNat 8 (v / 256)] := by
  have hlow : BitVec.ofNat 8 (v % 256) = BitVec.ofNat 8 v := BitVec.eq_of_toNat_eq (by simp)
  rw [hlow]
  rfl

theorem littleValue_littleBytes_two {v : Nat} (hv : v < 2 ^ 16) : littleValue (littleBytes 2 v) = v := by
  simp only [littleBytes_two, littleValue, BitVec.toNat_ofNat]
  omega

theorem fieldBytes_little_two (v : Nat) :
    fieldBytes false 2 v = [BitVec.ofNat 8 (v % 256), BitVec.ofNat 8 (v / 256)] := littleBytes_two v

theorem fieldBytes_big_two (v : Nat) :
    fieldBytes true 2 v = [BitVec.ofNat 8 (v / 256), BitVec.ofNat 8 (v % 256)] :=
  congrArg List.reverse (littleBytes_two v)

theorem fieldValue_fieldBytes_two (big : Bool) {v : Nat} (hv : v < 2 ^ 16) :
    fieldValue big (fieldBytes big 2 v) = v := by
  cases big with
  | false => exact littleValue_littleBytes_two hv
  | true =>
    calc fieldValue true (fieldBytes true 2 v)
        = littleValue (littleBytes 2 v).reverse.reverse := rfl
      _ = v := by rw [List.reverse_reverse, littleValue_littleBytes_two hv]

/-! ### The encoder -/

theorem lowHalf_eq_ofNat (x : Word) : lowHalf x = BitVec.ofNat 8 (x.toNat % 256) :=
  BitVec.eq_of_toNat_eq (by simp [lowHalf_toNat])

theorem highHalf_eq_ofNat (x : Word) : highHalf x = BitVec.ofNat 8 (x.toNat / 256) :=
  BitVec.eq_of_toNat_eq (by rw [highHalf_toNat, BitVec.toNat_ofNat]; omega)

theorem wordLE_eq_fieldBytes (n : Word) : wordLE n = fieldBytes false 2 n.toNat := by
  rw [fieldBytes_little_two, ← lowHalf_eq_ofNat, ← highHalf_eq_ofNat]
  rfl

theorem wordBE_eq_fieldBytes (n : Word) : wordBE n = fieldBytes true 2 n.toNat := by
  rw [fieldBytes_big_two, ← lowHalf_eq_ofNat, ← highHalf_eq_ofNat]
  rfl

/-- The encoding ends in the field's two bytes, low byte first. -/
theorem encode_little_of_lead {i : Instr} {n : Word} (lead : List Byte) (h : encode i = some (lead ++ wordLE n)) :
    ∃ lead, encode i = some (lead ++ fieldBytes false 2 n.toNat) :=
  ⟨lead, wordLE_eq_fieldBytes n ▸ h⟩

/-- Settles O47. The lead bytes of the immediates are those of R106: `0xB8 + r` for MOV, `0x81` and a modrm byte for
the other six. -/
theorem byteOrder : Obligations.ByteOrder := by
  refine ⟨optab86_littleEndian, fun e he m p hmem hsize => ?_, fun v hv => ?_, ?_, fun t => ?_, fun n => ?_⟩
  · rw [eq_movDptrEntry_of_wide he (hasWideField_of_mem hmem hsize)]
    exact ⟨rfl, rfl, rfl⟩
  · exact ⟨fieldBytes_little_two v, fieldBytes_big_two v, fieldValue_fieldBytes_two false hv,
      fieldValue_fieldBytes_two true hv⟩
  · simp only [List.forall_mem_cons]
    exact ⟨fun r n => encode_little_of_lead [0xB8 + numR16 r] rfl,
      fun r n => encode_little_of_lead [0x81, modrm 0 (numR16 r)] rfl,
      fun r n => encode_little_of_lead [0x81, modrm 5 (numR16 r)] rfl,
      fun r n => encode_little_of_lead [0x81, modrm 7 (numR16 r)] rfl,
      fun r n => encode_little_of_lead [0x81, modrm 4 (numR16 r)] rfl,
      fun r n => encode_little_of_lead [0x81, modrm 1 (numR16 r)] rfl,
      fun r n => encode_little_of_lead [0x81, modrm 6 (numR16 r)] rfl, nofun⟩
  · exact encode_little_of_lead [0xE9] rfl
  · exact ⟨[0x90], wordBE_eq_fieldBytes n ▸ rfl⟩

end Sys2Proof.Machine
end

section
/-! PROOFS. Operand tokens: how the classifiers of both cores read the names and numerals an instruction is written
with (R131, R181), and which classified operands make which instruction (R134, R194). -/

namespace Sys2Proof.Machine

/-! ### Names -/

theorem cls86_nameR8 (r : R8) : cls86 (nameR8 r) = .ok (.r8 r) := by cases r <;> rfl

theorem cls86_nameR16 (r : R16) : cls86 (nameR16 r) = .ok (.r16 r) := by cases r <;> rfl

theorem cls86_dstToken86 (d : Dst86) : cls86 (dstToken86 d) = .ok (dstOpd86 d) := by
  cases d with
  | r8 r => exact cls86_nameR8 r
  | r16 r => exact cls86_nameR16 r

theorem cls51_nameRN (r : RN) : cls51 (nameRN r) = .ok (.loc (.R r)) := by cases r <;> rfl

theorem cls51_nameInd (i : RI) : cls51 (nameInd i) = .ok (.indR i) := by cases i <;> rfl

theorem cls51_nameLoc51 (l : Loc51) : cls51 (nameLoc51 l) = .ok (.loc l) := by
  cases l with
  | A => rfl
  | B => rfl
  | R r => exact cls51_nameRN r

/-- No name of either architecture begins with the marker. -/
theorem isName_marked (a : Arch) (rest : List Char) : isName a ('#' :: rest) = false := by
  cases a <;> rfl

/-! ### Numerals -/

theorem isName86_eq_false {t : Token} (h : isName .core86 t = false) :
    names86.lookup t = none ∧ refusedNames86.contains t = false := by
  simpa [isName, Option.isSome_eq_false_iff, Option.isNone_iff_eq_none] using h

theorem isName51_eq_false {t : Token} (h : isName .core51 t = false) :
    names51.lookup t = none ∧ isRefusedName51 t = false := by
  simpa [isName, Option.isSome_eq_false_iff, Option.isNone_iff_eq_none] using h

theorem cls86_of_lit {t : Token} {v : LitValue} (hname : isName .core86 t = false) (hlit : lit .core86 t = .ok v) :
    cls86 t = .ok (.lit v.toNat) := by
  obtain ⟨hlookup, hrefused⟩ := isName86_eq_false hname
  simp only [cls86, hlookup, hrefused, hlit]
  rfl

theorem cls51_of_lit {t : Token} {v : LitValue} (hname : isName .core51 t = false) (hlit : lit .core51 t = .ok v) :
    cls51 t = .ok (if hasMarker t then .imm v.toNat else .bare v.toNat) := by
  obtain ⟨hlookup, hrefused⟩ := isName51_eq_false hname
  simp only [cls51, hlookup, hrefused, hlit]
  rfl

theorem exists_of_hasMarker {t : Token} (h : hasMarker t = true) : ∃ rest, t = '#' :: rest := by
  cases t with
  | nil => cases h
  | cons c rest => exact ⟨rest, by rw [Option.some.inj (beq_iff_eq.mp h)]⟩

/-- A token that matches a placeholder is no name, and a numeral with the marker the placeholder has (R98). -/
theorem numeral_of_placeholderToken {a : Arch} {m : Bool} {t : Token} {n : Nat}
    (h : placeholderToken a m t = some n) :
    hasMarker t = m ∧ isName a t = false ∧ lit a t = .ok (.value n) := by
  unfold placeholderToken at h
  cases m with
  | true =>
    cases hmark : hasMarker t with
    | false => simp [hmark] at h
    | true =>
      obtain ⟨rest, rfl⟩ := exists_of_hasMarker hmark
      refine ⟨rfl, isName_marked a rest, ?_⟩
      simp only [hmark, if_true] at h
      split at h
      · next hlit => rw [hlit, Option.some.inj h]
      · cases h
  | false =>
    simp only [Bool.false_eq_true, if_false] at h
    split at h
    · cases h
    · next hno =>
      simp only [Bool.or_eq_true, not_or, Bool.not_eq_true] at hno
      obtain ⟨⟨hmark, -⟩, hname⟩ := hno
      refine ⟨hmark, hname, ?_⟩
      split at h
      · next hlit => rw [hlit, Option.some.inj h]
      · cases h

/-- The numeral a field prints, with or without the marker (R96). -/
def fieldToken (marker : Bool) (k n : Nat) : Token := (if marker then ['#'] else []) ++ hexNumeral k n

theorem placeholderToken_fieldToken (a : Arch) (marker : Bool) {k n : Nat} (hk : 0 < k) (hn : n < 16 ^ k) :
    placeholderToken a marker (fieldToken marker k n) = some n := by
  cases marker with
  | true =>
    have hmark : hasMarker ('#' :: hexNumeral k n) = true := rfl
    show placeholderToken a true ('#' :: hexNumeral k n) = some n
    simp [placeholderToken, hmark, lit_marked_hexNumeral a hk hn]
  | false =>
    have hmark : hasMarker (hexNumeral k n) = false := rfl
    have hat : ((hexNumeral k n).head? == some '@') = false := rfl
    have hname : isName a (hexNumeral k n) = false := isName_zero a _
    show placeholderToken a false (hexNumeral k n) = some n
    simp [placeholderToken, hmark, hat, hname, lit_hexNumeral a hk hn]

theorem cls86_of_placeholderToken {m : Bool} {t : Token} {n : Nat} (h : placeholderToken .core86 m t = some n) :
    cls86 t = .ok (.lit n) := by
  obtain ⟨-, hname, hlit⟩ := numeral_of_placeholderToken h
  exact cls86_of_lit hname hlit

/-- core51 tells a literal with the marker from a bare one (R181). -/
def literal51 (marker : Bool) (n : Nat) : Cls51 := if marker then .imm n else .bare n

theorem cls51_of_placeholderToken {m : Bool} {t : Token} {n : Nat} (h : placeholderToken .core51 m t = some n) :
    cls51 t = .ok (literal51 m n) := by
  obtain ⟨rfl, hname, hlit⟩ := numeral_of_placeholderToken h
  exact cls51_of_lit hname hlit

theorem byte_lt_hex (n : Byte) : n.toNat < 16 ^ 2 := n.isLt

theorem word_lt_hex (n : Word) : n.toNat < 16 ^ 4 := n.isLt

theorem cls86_fieldToken (marker : Bool) {k n : Nat} (hk : 0 < k) (hn : n < 16 ^ k) :
    cls86 (fieldToken marker k n) = .ok (.lit n) :=
  cls86_of_placeholderToken (placeholderToken_fieldToken _ marker hk hn)

theorem cls51_fieldToken (marker : Bool) {k n : Nat} (hk : 0 < k) (hn : n < 16 ^ k) :
    cls51 (fieldToken marker k n) = .ok (literal51 marker n) :=
  cls51_of_placeholderToken (placeholderToken_fieldToken _ marker hk hn)

theorem cls86_imm8 (n : Byte) : cls86 (immToken 2 n.toNat) = .ok (.lit n.toNat) :=
  cls86_fieldToken true (by decide) (byte_lt_hex n)

theorem cls86_imm16 (n : Word) : cls86 (immToken 4 n.toNat) = .ok (.lit n.toNat) :=
  cls86_fieldToken true (by decide) (word_lt_hex n)

theorem cls86_rel8 (t : Byte) : cls86 (hexNumeral 2 t.toNat) = .ok (.lit t.toNat) :=
  cls86_fieldToken false (by decide) (byte_lt_hex t)

theorem cls86_rel16 (t : Word) : cls86 (hexNumeral 4 t.toNat) = .ok (.lit t.toNat) :=
  cls86_fieldToken false (by decide) (word_lt_hex t)

theorem cls86_targetToken (n : Nat) : cls86 (targetToken n) = .ok (.lit n) :=
  cls86_fieldToken false (hexLength_pos n) (lt_hexLength n)

theorem cls86_opdToken86 (o : Opd86) : cls86 (opdToken86 o) = .ok o := by
  cases o with
  | r8 r => exact cls86_nameR8 r
  | r16 r => exact cls86_nameR16 r
  | lit n => exact cls86_fieldToken true (hexLength_pos n) (lt_hexLength n)

theorem cls51_imm8 (n : Byte) : cls51 (immToken 2 n.toNat) = .ok (.imm n.toNat) :=
  cls51_fieldToken true (by decide) (byte_lt_hex n)

theorem cls51_imm16 (n : Word) : cls51 (immToken 4 n.toNat) = .ok (.imm n.toNat) :=
  cls51_fieldToken true (by decide) (word_lt_hex n)

theorem cls51_immLit (n : Nat) : cls51 (immToken (hexLength n) n) = .ok (.imm n) :=
  cls51_fieldToken true (hexLength_pos n) (lt_hexLength n)

theorem cls51_rel8 (t : Byte) : cls51 (hexNumeral 2 t.toNat) = .ok (.bare t.toNat) :=
  cls51_fieldToken false (by decide) (byte_lt_hex t)

theorem cls51_targetToken (n : Nat) : cls51 (targetToken n) = .ok (.bare n) :=
  cls51_fieldToken false (hexLength_pos n) (lt_hexLength n)

/-- The source of an 8-bit MOV as an operand class (R181). -/
def srcCls51 : Src51 → Cls51
  | .loc l => .loc l
  | .imm n => .imm n

theorem cls51_srcToken51 (src : Src51) : cls51 (srcToken51 src) = .ok (srcCls51 src) := by
  cases src with
  | loc l => exact cls51_nameLoc51 l
  | imm n => exact cls51_immLit n

/-! ### From classified operands to an instruction -/

theorem clsAll_one {α : Type} {cls : Token → Except Refusal α} {t : Token} {c : α} (ht : cls t = .ok c) :
    clsAll cls [t] = .ok [c] := by
  simp [clsAll, ht]

theorem clsAll_two {α : Type} {cls : Token → Except Refusal α} {t u : Token} {c d : α} (ht : cls t = .ok c)
    (hu : cls u = .ok d) : clsAll cls [t, u] = .ok [c, d] := by
  simp [clsAll, ht, hu]

theorem resolve86_of_form {r : Record} {m : Mnem86} {ops : List Opd86} {i : Instr}
    (hm : mnemonics86.lookup r.mnemonic = some m) (hops : clsAll cls86 r.operands = .ok ops)
    (hform : form86 m ops = some i) : resolve .core86 r = .ok i := by
  cases m with
  | div =>
    obtain rfl := Option.some.inj hform
    simp [resolve, resolve86, hm]
  | _ => simp [resolve, resolve86, hm, hops, hform]

theorem resolve51_of_form {r : Record} {m : Mnem51} {ops : List Cls51} {i : Instr}
    (hm : mnemonics51.lookup r.mnemonic = some m) (hops : clsAll cls51 r.operands = .ok ops)
    (hform : form51 m ops = some i) : resolve .core51 r = .ok i := by
  simp [resolve, resolve51, hm, hops, hform]

/-- The ways a record is an instruction of core86: DIV, whose operands are never looked at (R246), and the forms of
the operands' classes. -/
theorem resolve86_eq_ok {r : Record} {i : Instr} (h : resolve .core86 r = .ok i) :
    i = .x86Div ∨ ∃ m ops, clsAll cls86 r.operands = .ok ops ∧ form86 m ops = some i := by
  simp only [resolve, resolve86] at h
  split at h
  · cases h
  · exact .inl (Except.ok.inj h).symm
  · split at h
    · cases h
    · next hops =>
      split at h
      · next hform => exact .inr ⟨_, _, hops, Except.ok.inj h ▸ hform⟩
      · cases h

/-- The one way a record is an instruction of core51: the forms of the operands' classes. -/
theorem resolve51_eq_ok {r : Record} {i : Instr} (h : resolve .core51 r = .ok i) :
    ∃ m ops, clsAll cls51 r.operands = .ok ops ∧ form51 m ops = some i := by
  simp only [resolve, resolve51] at h
  split at h
  · cases h
  · split at h
    · cases h
    · next hops =>
      split at h
      · next hform => exact ⟨_, _, hops, Except.ok.inj h ▸ hform⟩
      · cases h

/-- A literal that its 16-bit field holds is the row's. -/
theorem choose_word (n : Word) (row : Word → Instr) (wide : Instr) :
    (if n.toNat < 2 ^ 16 then row (BitVec.ofNat 16 n.toNat) else wide) = row n := by
  rw [if_pos n.isLt, BitVec.ofNat_toNat, BitVec.setWidth_eq]

/-- A literal that its 8-bit field holds is the row's. -/
theorem choose_byte (n : Byte) (row : Byte → Instr) (wide : Instr) :
    (if n.toNat < 2 ^ 8 then row (BitVec.ofNat 8 n.toNat) else wide) = row n := by
  rw [if_pos n.isLt, BitVec.ofNat_toNat, BitVec.setWidth_eq]

/-- Operands that no row encodes make the execute-only form (R113). -/
theorem pairForm86_of_not_encodable {ri : R16 → Word → Instr} {bi : R8 → Byte → Instr} {rr : R16 → R16 → Instr}
    {bb : R8 → R8 → Instr} {other : Dst86 → Opd86 → Instr} {d : Dst86} {src : Opd86}
    (h : encodable86 d src = false) : pairForm86 ri bi rr bb other d src = other d src := by
  unfold pairForm86
  split
  · exact if_neg (of_decide_eq_false h)
  · exact if_neg (of_decide_eq_false h)
  · cases h
  · cases h
  · rfl
  · rfl

/-- An operand is a literal or a destination (R133). -/
theorem opd86_lit_or_dst (o : Opd86) : (∃ n, o = .lit n) ∨ ∃ d, o = dstOpd86 d := by
  cases o with
  | r8 r => exact .inr ⟨.r8 r, rfl⟩
  | r16 r => exact .inr ⟨.r16 r, rfl⟩
  | lit n => exact .inl ⟨n, rfl⟩

/-- CMP with a destination as its first operand goes by the rows of the other mnemonics (R141). -/
theorem cmpForm86_dst (d : Dst86) (r : Opd86) :
    cmpForm86 (dstOpd86 d) r = pairForm86 .x86CmpR16Imm16 .x86CmpR8Imm8 .x86CmpR16R16 .x86CmpR8R8
      (fun _ _ => .x86CmpForm (dstOpd86 d) r) d r := by
  cases d <;> rfl

theorem encodableCmp86_dst (d : Dst86) (r : Opd86) : encodableCmp86 (dstOpd86 d) r = encodable86 d r := by
  cases d <;> rfl

theorem cmpForm86_of_not_encodable {l r : Opd86} (h : encodableCmp86 l r = false) :
    cmpForm86 l r = .x86CmpForm l r := by
  obtain ⟨n, rfl⟩ | ⟨d, rfl⟩ := opd86_lit_or_dst l
  · rfl
  · rw [encodableCmp86_dst] at h
    rw [cmpForm86_dst, pairForm86_of_not_encodable h]

theorem movForm51_of_not_encodable {d : Loc51} {src : Src51} (h : encodable51 d src = false) :
    movForm51 d src = .i51MovForm d src := by
  unfold movForm51
  split
  · exact if_neg (of_decide_eq_false h)
  · exact if_neg (of_decide_eq_false h)
  · exact if_neg (of_decide_eq_false h)
  · cases h
  · cases h
  · cases h
  · cases h
  · cases h
  · cases h
  · rfl
  · rfl
  · rfl

end Sys2Proof.Machine
end

section
/-! PROOFS. Records and instructions (O55): a well-formed instruction is what its record resolves to, and only
well-formed instructions are. -/

namespace Sys2Proof.Machine

/-! ### Writing an instruction and reading it back -/

theorem resolve86_zero {m : Token} {mm : Mnem86} {i : Instr} (hm : mnemonics86.lookup m = some mm)
    (hform : form86 mm [] = some i) : resolve .core86 { mnemonic := m, operands := [] } = .ok i :=
  resolve86_of_form hm rfl hform

theorem resolve86_one {m t : Token} {mm : Mnem86} {c : Opd86} {i : Instr} (hm : mnemonics86.lookup m = some mm)
    (ht : cls86 t = .ok c) (hform : form86 mm [c] = some i) :
    resolve .core86 { mnemonic := m, operands := [t] } = .ok i :=
  resolve86_of_form hm (clsAll_one ht) hform

theorem resolve86_two {m t u : Token} {mm : Mnem86} {c d : Opd86} {i : Instr}
    (hm : mnemonics86.lookup m = some mm) (ht : cls86 t = .ok c) (hu : cls86 u = .ok d)
    (hform : form86 mm [c, d] = some i) : resolve .core86 { mnemonic := m, operands := [t, u] } = .ok i :=
  resolve86_of_form hm (clsAll_two ht hu) hform

theorem resolve51_one {m t : Token} {mm : Mnem51} {c : Cls51} {i : Instr} (hm : mnemonics51.lookup m = some mm)
    (ht : cls51 t = .ok c) (hform : form51 mm [c] = some i) :
    resolve .core51 { mnemonic := m, operands := [t] } = .ok i :=
  resolve51_of_form hm (clsAll_one ht) hform

theorem resolve51_two {m t u : Token} {mm : Mnem51} {c d : Cls51} {i : Instr}
    (hm : mnemonics51.lookup m = some mm) (ht : cls51 t = .ok c) (hu : cls51 u = .ok d)
    (hform : form51 mm [c, d] = some i) : resolve .core51 { mnemonic := m, operands := [t, u] } = .ok i :=
  resolve51_of_form hm (clsAll_two ht hu) hform

/-- A literal too wide for a jump's field is the form wider than the field. -/
theorem choose_wide {k n : Nat} (h : k ≤ n) (row wide : Instr) : (if n < k then row else wide) = wide :=
  if_neg (Nat.not_lt.mpr h)

/-- The two operands of a mnemonic whose first is a destination (R134). -/
theorem dstForm86_dst (make : Dst86 → Opd86 → Instr) (d : Dst86) (src : Opd86) :
    dstForm86 make [dstOpd86 d, src] = some (make d src) := by
  cases d <;> rfl

/-- A well-formed execute-only form of two operands is what its record resolves to. -/
theorem resolve86_dstForm {m : Token} {mm : Mnem86} {ri : R16 → Word → Instr} {bi : R8 → Byte → Instr}
    {rr : R16 → R16 → Instr} {bb : R8 → R8 → Instr} {other : Dst86 → Opd86 → Instr}
    (hm : mnemonics86.lookup m = some mm)
    (hform : ∀ ops, form86 mm ops = dstForm86 (pairForm86 ri bi rr bb other) ops) {d : Dst86} {src : Opd86}
    (h : encodable86 d src = false) :
    resolve .core86 { mnemonic := m, operands := [dstToken86 d, opdToken86 src] } = .ok (other d src) :=
  resolve86_two hm (cls86_dstToken86 d) (cls86_opdToken86 src)
    (by rw [hform, dstForm86_dst, pairForm86_of_not_encodable h])

/-- Every well-formed instruction is what the execution engine of its core reads from its record. -/
theorem resolve_instrRecord {i : Instr} (h : wellFormed i = true) : resolve i.arch (instrRecord i) = .ok i := by
  cases i with
  | x86MovR16Imm16 r n | x86AddR16Imm16 r n | x86SubR16Imm16 r n | x86CmpR16Imm16 r n | x86AndR16Imm16 r n
  | x86OrR16Imm16 r n | x86XorR16Imm16 r n =>
    exact resolve86_two rfl (cls86_nameR16 r) (cls86_imm16 n) (congrArg some (choose_word n _ _))
  | x86MovR8Imm8 r n | x86AddR8Imm8 r n | x86SubR8Imm8 r n | x86CmpR8Imm8 r n | x86AndR8Imm8 r n
  | x86OrR8Imm8 r n | x86XorR8Imm8 r n =>
    exact resolve86_two rfl (cls86_nameR8 r) (cls86_imm8 n) (congrArg some (choose_byte n _ _))
  | x86MovR16R16 d s | x86AddR16R16 d s | x86SubR16R16 d s | x86CmpR16R16 d s | x86AndR16R16 d s
  | x86OrR16R16 d s | x86XorR16R16 d s =>
    exact resolve86_two rfl (cls86_nameR16 d) (cls86_nameR16 s) rfl
  | x86MovR8R8 d s | x86AddR8R8 d s | x86SubR8R8 d s | x86CmpR8R8 d s | x86AndR8R8 d s
  | x86OrR8R8 d s | x86XorR8R8 d s =>
    exact resolve86_two rfl (cls86_nameR8 d) (cls86_nameR8 s) rfl
  | x86IncR16 r | x86DecR16 r => exact resolve86_one rfl (cls86_nameR16 r) rfl
  | x86IncR8 r | x86DecR8 r => exact resolve86_one rfl (cls86_nameR8 r) rfl
  | x86Jmp t => exact resolve86_one rfl (cls86_rel16 t) (congrArg some (choose_word t _ _))
  | x86Je t | x86Jz t | x86Jne t | x86Jnz t =>
    exact resolve86_one rfl (cls86_rel8 t) (congrArg some (choose_byte t _ _))
  | x86Hlt => exact resolve86_zero rfl rfl
  | x86Div => exact resolve86_zero rfl rfl
  | x86MovForm d src | x86AddForm d src | x86SubForm d src | x86AndForm d src | x86OrForm d src
  | x86XorForm d src => exact resolve86_dstForm rfl (fun _ => rfl) (Bool.not_eq_true' _ ▸ h)
  | x86CmpForm l r =>
    exact resolve86_two rfl (cls86_opdToken86 l) (cls86_opdToken86 r)
      (congrArg some (cmpForm86_of_not_encodable (Bool.not_eq_true' _ ▸ h)))
  | x86JmpLit n | x86JeLit n | x86JzLit n | x86JneLit n | x86JnzLit n =>
    exact resolve86_one rfl (cls86_targetToken n) (congrArg some (choose_wide (of_decide_eq_true h) _ _))
  | i51MovAImm n | i51MovBImm n =>
    exact resolve51_two rfl rfl (cls51_imm8 n) (congrArg some (choose_byte n _ _))
  | i51MovRnImm r n =>
    exact resolve51_two rfl (cls51_nameRN r) (cls51_imm8 n) (congrArg some (choose_byte n _ _))
  | i51MovDptrImm n => exact resolve51_two rfl rfl (cls51_imm16 n) (congrArg some (choose_word n _ _))
  | i51MovARn r | i51MovBRn r => exact resolve51_two rfl rfl (cls51_nameRN r) rfl
  | i51MovRnA r | i51MovRnB r => exact resolve51_two rfl (cls51_nameRN r) rfl rfl
  | i51MovAB | i51MovBA | i51MovxADptr | i51MovxDptrA => exact resolve51_two rfl rfl rfl rfl
  | i51MovxARi x => exact resolve51_two rfl rfl (cls51_nameInd x) rfl
  | i51MovxRiA x => exact resolve51_two rfl (cls51_nameInd x) rfl rfl
  | i51IncRn r | i51DecRn r => exact resolve51_one rfl (cls51_nameRN r) rfl
  | i51IncA | i51IncB | i51IncDptr | i51DecA | i51DecB | i51DecDptr | i51MulAB | i51DivAB | i51RlcA | i51RrcA
  | i51ClrC | i51SetbC | i51CplC => exact resolve51_one rfl rfl rfl
  | i51Sjmp t | i51Jz t | i51Jnz t | i51Jc t | i51Jnc t =>
    exact resolve51_one rfl (cls51_rel8 t) (congrArg some (choose_byte t _ _))
  | i51MovForm d src =>
    refine resolve51_two rfl (cls51_nameLoc51 d) (cls51_srcToken51 src) ?_
    rw [← movForm51_of_not_encodable (Bool.not_eq_true' _ ▸ h)]
    cases src <;> rfl
  | i51MovDptrLit n =>
    exact resolve51_two rfl rfl (cls51_immLit n) (congrArg some (choose_wide (of_decide_eq_true h) _ _))
  | i51SjmpLit n | i51JzLit n | i51JnzLit n | i51JcLit n | i51JncLit n =>
    exact resolve51_one rfl (cls51_targetToken n) (congrArg some (choose_wide (of_decide_eq_true h) _ _))

/-! ### Only well-formed instructions are resolved -/

/-- A row's instruction, or the form wider than the row's field. -/
theorem choose_wellFormed {k n : Nat} {row wide : Instr} (hrow : wellFormed row = true)
    (hwide : k ≤ n → wellFormed wide = true) : wellFormed (if n < k then row else wide) = true := by
  split
  · exact hrow
  · next h => exact hwide (Nat.not_lt.mp h)

theorem pairForm86_wellFormed {ri : R16 → Word → Instr} {bi : R8 → Byte → Instr} {rr : R16 → R16 → Instr}
    {bb : R8 → R8 → Instr} {other : Dst86 → Opd86 → Instr} (hri : ∀ x n, wellFormed (ri x n) = true)
    (hbi : ∀ x n, wellFormed (bi x n) = true) (hrr : ∀ x y, wellFormed (rr x y) = true)
    (hbb : ∀ x y, wellFormed (bb x y) = true) {d : Dst86} {src : Opd86}
    (hother : encodable86 d src = false → wellFormed (other d src) = true) :
    wellFormed (pairForm86 ri bi rr bb other d src) = true := by
  cases henc : encodable86 d src with
  | false => rw [pairForm86_of_not_encodable henc]; exact hother henc
  | true =>
    unfold pairForm86
    split
    · exact choose_wellFormed (hri _ _) fun hn => hother (decide_eq_false (Nat.not_lt.mpr hn))
    · exact choose_wellFormed (hbi _ _) fun hn => hother (decide_eq_false (Nat.not_lt.mpr hn))
    · exact hrr _ _
    · exact hbb _ _
    · cases henc
    · cases henc

theorem cmpForm86_wellFormed (l r : Opd86) : wellFormed (cmpForm86 l r) = true := by
  obtain ⟨n, rfl⟩ | ⟨d, rfl⟩ := opd86_lit_or_dst l
  · rfl
  · rw [cmpForm86_dst]
    refine pairForm86_wellFormed (fun _ _ => rfl) (fun _ _ => rfl) (fun _ _ => rfl) (fun _ _ => rfl) fun henc => ?_
    simp [wellFormed, encodableCmp86_dst, henc]

theorem dstForm86_wellFormed {make : Dst86 → Opd86 → Instr} (hmake : ∀ d src, wellFormed (make d src) = true)
    {ops : List Opd86} {i : Instr} (h : dstForm86 make ops = some i) : wellFormed i = true := by
  unfold dstForm86 at h
  split at h
  · obtain ⟨d, -, rfl⟩ := Option.map_eq_some_iff.mp h
    exact hmake _ _
  · cases h

theorem unaryForm86_wellFormed {r16 : R16 → Instr} {r8 : R8 → Instr} (h16 : ∀ r, wellFormed (r16 r) = true)
    (h8 : ∀ r, wellFormed (r8 r) = true) {ops : List Opd86} {i : Instr} (h : unaryForm86 r16 r8 ops = some i) :
    wellFormed i = true := by
  unfold unaryForm86 at h
  split at h
  · exact Option.some.inj h ▸ h16 _
  · exact Option.some.inj h ▸ h8 _
  · cases h

theorem jumpForm86_wellFormed {make : Nat → Instr} (hmake : ∀ n, wellFormed (make n) = true) {ops : List Opd86}
    {i : Instr} (h : jumpForm86 make ops = some i) : wellFormed i = true := by
  unfold jumpForm86 at h
  split at h
  · exact Option.some.inj h ▸ hmake _
  · cases h

theorem form86_wellFormed {m : Mnem86} {ops : List Opd86} {i : Instr} (h : form86 m ops = some i) :
    wellFormed i = true := by
  cases m with
  | mov | add | sub | and | or | xor =>
    exact dstForm86_wellFormed (fun d src => pairForm86_wellFormed (fun _ _ => rfl) (fun _ _ => rfl)
      (fun _ _ => rfl) (fun _ _ => rfl) fun henc => Bool.not_eq_true' _ ▸ henc) h
  | cmp =>
    simp only [form86] at h
    split at h
    · exact Option.some.inj h ▸ cmpForm86_wellFormed _ _
    · cases h
  | inc | dec => exact unaryForm86_wellFormed (fun _ => rfl) (fun _ => rfl) h
  | jmp | je | jz | jne | jnz =>
    exact jumpForm86_wellFormed (fun _ => choose_wellFormed rfl fun hn => by exact decide_eq_true hn) h
  | hlt =>
    simp only [form86] at h
    split at h
    · exact Option.some.inj h ▸ rfl
    · cases h
  | div => exact Option.some.inj h ▸ rfl

theorem movForm51_wellFormed (d : Loc51) (src : Src51) : wellFormed (movForm51 d src) = true := by
  cases henc : encodable51 d src with
  | false => rw [movForm51_of_not_encodable henc]; exact Bool.not_eq_true' _ ▸ henc
  | true =>
    unfold movForm51
    split
    · exact choose_wellFormed rfl fun hn => Bool.not_eq_true' _ ▸ decide_eq_false (Nat.not_lt.mpr hn)
    · exact choose_wellFormed rfl fun hn => Bool.not_eq_true' _ ▸ decide_eq_false (Nat.not_lt.mpr hn)
    · exact choose_wellFormed rfl fun hn => Bool.not_eq_true' _ ▸ decide_eq_false (Nat.not_lt.mpr hn)
    all_goals rfl

theorem stepForm51_wellFormed {a b dptr : Instr} {r : RN → Instr} (ha : wellFormed a = true)
    (hb : wellFormed b = true) (hr : ∀ n, wellFormed (r n) = true) (hdptr : wellFormed dptr = true)
    {ops : List Cls51} {i : Instr} (h : stepForm51 a b r dptr ops = some i) : wellFormed i = true := by
  unfold stepForm51 at h
  split at h
  · exact Option.some.inj h ▸ ha
  · exact Option.some.inj h ▸ hb
  · exact Option.some.inj h ▸ hr _
  · exact Option.some.inj h ▸ hdptr
  · cases h

theorem jumpForm51_wellFormed {row : Byte → Instr} {wide : Nat → Instr} (hrow : ∀ t, wellFormed (row t) = true)
    (hwide : ∀ n, 2 ^ 8 ≤ n → wellFormed (wide n) = true) {ops : List Cls51} {i : Instr}
    (h : jumpForm51 row wide ops = some i) : wellFormed i = true := by
  unfold jumpForm51 at h
  split at h
  · exact Option.some.inj h ▸ choose_wellFormed (hrow _) (hwide _)
  · exact Option.some.inj h ▸ choose_wellFormed (hrow _) (hwide _)
  · cases h

theorem only51_wellFormed {c : Cls51} {x : Instr} (hx : wellFormed x = true) {ops : List Cls51} {i : Instr}
    (h : only51 c x ops = some i) : wellFormed i = true := by
  unfold only51 at h
  split at h
  · exact Option.some.inj h ▸ hx
  · cases h

theorem form51_wellFormed {m : Mnem51} {ops : List Cls51} {i : Instr} (h : form51 m ops = some i) :
    wellFormed i = true := by
  cases m with
  | mov =>
    simp only [form51] at h
    split at h
    · exact Option.some.inj h ▸ movForm51_wellFormed _ _
    · exact Option.some.inj h ▸ movForm51_wellFormed _ _
    · exact Option.some.inj h ▸ choose_wellFormed rfl fun hn => decide_eq_true hn
    · cases h
  | movx =>
    simp only [form51] at h
    split at h
    · exact Option.some.inj h ▸ rfl
    · exact Option.some.inj h ▸ rfl
    · exact Option.some.inj h ▸ rfl
    · exact Option.some.inj h ▸ rfl
    · cases h
  | inc | dec => exact stepForm51_wellFormed rfl rfl (fun _ => rfl) rfl h
  | mul | div | rlc | rrc | clr | setb | cpl => exact only51_wellFormed rfl h
  | sjmp | jz | jnz | jc | jnc => exact jumpForm51_wellFormed (fun _ => rfl) (fun _ hn => by exact decide_eq_true hn) h

theorem resolve_wellFormed {a : Arch} {r : Record} {i : Instr} (h : resolve a r = .ok i) : wellFormed i = true := by
  cases a with
  | core86 =>
    obtain rfl | ⟨m, ops, -, hform⟩ := resolve86_eq_ok h
    · rfl
    · exact form86_wellFormed hform
  | core51 =>
    obtain ⟨m, ops, -, hform⟩ := resolve51_eq_ok h
    exact form51_wellFormed hform

/-- No core looks at the line number (R80). -/
theorem resolve_sourceLine (a : Arch) (r : Record) (line : Option Nat) :
    resolve a { r with sourceLine := line } = resolve a r := by
  cases a <;> rfl

/-- Settles O55. -/
theorem recordsResolve : Obligations.RecordsResolve :=
  ⟨fun _ => resolve_instrRecord, fun _ _ _ h => ⟨resolve_wellFormed h, resolve_arch h⟩, resolve_sourceLine⟩

end Sys2Proof.Machine
end

section
/-! PROOFS. One decode step (R92 to R94), and what a disassembly and an assembly add up to (R95, R102). -/

namespace Sys2Proof.Machine

/-! ### Selecting an entry -/

/-- The selected entry is the first of the whole table, row after row (R91, R92). -/
theorem selectEntry_eq_find (table : Table) (b : Byte) :
    selectEntry table b = (tableEntries table).find? fun e => e.lead.head? == some b :=
  List.find?_flatten.symm

theorem selectEntry_eq_none {table : Table} {b : Byte} :
    selectEntry table b = none ↔ ∀ e ∈ tableEntries table, e.lead.head? ≠ some b := by
  simp [selectEntry_eq_find]

theorem selectEntry_eq_some {table : Table} {b : Byte} {e : Entry} :
    selectEntry table b = some e ↔ e.lead.head? = some b ∧
      ∃ pre post, tableEntries table = pre ++ e :: post ∧ ∀ e' ∈ pre, e'.lead.head? ≠ some b := by
  simp [selectEntry_eq_find, List.find?_eq_some_iff_append]

theorem mem_of_selectEntry {table : Table} {b : Byte} {e : Entry} (h : selectEntry table b = some e) :
    e ∈ tableEntries table := by
  rw [selectEntry_eq_find] at h
  exact List.mem_of_find?_eq_some h

/-! ### One step -/

theorem decodeStep_unlisted {table : Table} {b : Byte} (h : selectEntry table b = none) (rest : List Byte) :
    decodeStep table (b :: rest) = some (.unknown b, 1) := by
  simp [decodeStep, h]

theorem decodeStep_fits {table : Table} {b : Byte} {e : Entry} {rest : List Byte} (h : selectEntry table b = some e)
    (hlen : e.len ≤ rest.length + 1) :
    decodeStep table (b :: rest) =
      some (.known e (fieldValues e.bigEndian e.template ((b :: rest).drop e.lead.length)), e.len) := by
  simp [decodeStep, h, hlen]

theorem decodeStep_truncated {table : Table} {b : Byte} {e : Entry} {rest : List Byte}
    (h : selectEntry table b = some e) (hlen : rest.length + 1 < e.len) :
    decodeStep table (b :: rest) = some (.unknown b, 1) := by
  simp [decodeStep, h, Nat.not_le.mpr hlen]

/-- A buffer from an offset on. -/
theorem decodeAt_append (table : Table) (before bytes : List Byte) :
    decodeAt table (before ++ bytes) before.length = decodeStep table bytes := by
  simp [decodeAt]

/-- Settles O48. -/
theorem firstByteSelects : Obligations.FirstByteSelects := by
  intro table before rest b
  simp only [decodeAt_append]
  refine ⟨fun hnone => decodeStep_unlisted (selectEntry_eq_none.mpr hnone) rest, ?_⟩
  intro pre post e htable hpre hlead
  have hselect : selectEntry table b = some e := selectEntry_eq_some.mpr ⟨hlead, pre, post, htable, hpre⟩
  exact ⟨decodeStep_fits hselect, decodeStep_truncated hselect⟩

theorem entryWellFormed_iff {e : Entry} :
    entryWellFormed e = true ↔ e.lead ≠ [] ∧ e.len = e.lead.length + templateSize e.template := by
  simp [entryWellFormed]

theorem len_pos {e : Entry} (h : entryWellFormed e = true) : 0 < e.len := by
  obtain ⟨hlead, hlen⟩ := entryWellFormed_iff.mp h
  have := List.length_pos_iff.mpr hlead
  omega

/-- A step takes at least one byte, and no more than there are (R94, R95). -/
theorem decodeStep_taken {table : Table} (hwf : ∀ e ∈ tableEntries table, entryWellFormed e = true)
    {bytes : List Byte} {d : Decoded} {n : Nat} (h : decodeStep table bytes = some (d, n)) :
    0 < n ∧ n ≤ bytes.length := by
  cases bytes with
  | nil => cases h
  | cons b rest =>
    cases hselect : selectEntry table b with
    | none =>
      rw [decodeStep_unlisted hselect] at h
      cases h
      simp
    | some e =>
      by_cases hlen : e.len ≤ rest.length + 1
      · rw [decodeStep_fits hselect hlen] at h
        cases h
        exact ⟨len_pos (hwf e (mem_of_selectEntry hselect)), hlen⟩
      · rw [decodeStep_truncated hselect (Nat.lt_of_not_le hlen)] at h
        cases h
        simp

theorem decodeStep_isSome (table : Table) (b : Byte) (rest : List Byte) :
    ∃ d n, decodeStep table (b :: rest) = some (d, n) := by
  unfold decodeStep
  split
  · contradiction
  · split
    · exact ⟨_, _, rfl⟩
    · split <;> exact ⟨_, _, rfl⟩

/-! ### Running addresses -/

/-- The addresses of a list are the running sums of the sizes from a start on. -/
def RunningSum {α : Type} (address size : α → Nat) : Nat → List α → Prop
  | _, [] => True
  | start, x :: xs => address x = start ∧ RunningSum address size (start + size x) xs

theorem RunningSum.address_eq {α : Type} {address size : α → Nat} {start : Nat} {pre post : List α} {x : α}
    (h : RunningSum address size start (pre ++ x :: post)) : address x = start + (pre.map size).sum := by
  induction pre generalizing start with
  | nil =>
    obtain ⟨hx, -⟩ := h
    exact hx
  | cons y pre ih =>
    obtain ⟨-, hrest⟩ := h
    rw [ih hrest, List.map_cons, List.sum_cons, Nat.add_assoc]

/-! ### Disassembly -/

theorem disassembleFrom_succ {table : Table} {bytes : List Byte} {d : Decoded} {n : Nat}
    (h : decodeStep table bytes = some (d, n)) (fuel address : Nat) :
    disassembleFrom table (fuel + 1) address bytes =
      { address := address, bytes := bytes.take n, decoded := d } ::
        disassembleFrom table fuel (address + n) (bytes.drop n) := by
  simp [disassembleFrom, h]

/-- What a disassembly from an address on is, if it covers the bytes. -/
structure Covers (address : Nat) (bytes : List Byte) (lines : List Line) : Prop where
  bytes_eq : lines.flatMap (fun l => l.bytes) = bytes
  nonempty : ∀ l ∈ lines, l.bytes ≠ []
  addresses : RunningSum (fun l => l.address) (fun l => l.bytes.length) address lines

/-- One line more, of the first `n` bytes. -/
theorem Covers.cons {address n : Nat} {bytes : List Byte} {d : Decoded} {lines : List Line} (hpos : 0 < n)
    (hn : n ≤ bytes.length) (h : Covers (address + n) (bytes.drop n) lines) :
    Covers address bytes ({ address := address, bytes := bytes.take n, decoded := d } :: lines) where
  bytes_eq := by rw [List.flatMap_cons, h.bytes_eq, List.take_append_drop]
  nonempty := by
    refine List.forall_mem_cons.mpr ⟨?_, h.nonempty⟩
    rw [ne_eq, ← List.length_eq_zero_iff, List.length_take_of_le hn]
    exact hpos.ne'
  addresses := ⟨rfl, by simpa only [List.length_take_of_le hn] using h.addresses⟩

theorem disassembleFrom_covers {table : Table} (hwf : ∀ e ∈ tableEntries table, entryWellFormed e = true)
    (fuel address : Nat) (bytes : List Byte) (hfuel : bytes.length ≤ fuel) :
    Covers address bytes (disassembleFrom table fuel address bytes) := by
  induction fuel generalizing address bytes with
  | zero =>
    obtain rfl := List.length_eq_zero_iff.mp (Nat.le_zero.mp hfuel)
    exact ⟨rfl, nofun, trivial⟩
  | succ fuel ih =>
    cases bytes with
    | nil => exact ⟨rfl, nofun, trivial⟩
    | cons b rest =>
      obtain ⟨d, n, hstep⟩ := decodeStep_isSome table b rest
      obtain ⟨hpos, hn⟩ := decodeStep_taken hwf hstep
      rw [disassembleFrom_succ hstep]
      refine .cons hpos hn (ih _ _ ?_)
      rw [List.length_drop]
      omega

/-- Settles O54: every step takes at least one byte, so as many steps as bytes are enough. -/
theorem disassemblyCoversBuffer : Obligations.DisassemblyCoversBuffer := by
  intro table bytes hwf
  have hcovers : Covers 0 bytes (disassemble table bytes) := disassembleFrom_covers hwf _ 0 bytes le_rfl
  refine ⟨hcovers.bytes_eq, hcovers.nonempty, fun pre post l hlines => ?_⟩
  have hsum := RunningSum.address_eq (hlines ▸ hcovers.addresses)
  rw [hsum, Nat.zero_add, List.length_flatMap]

/-! ### Assembly -/

/-- The first line is blank, in error, or an instruction; only an instruction advances the address (R101, R102). -/
theorem assembleFrom_addresses {a : Arch} {table : Table} {n address : Nat} {lines : List (List Char)} {out : Assembly}
    (h : assembleFrom a table n address lines = .ok out) :
    RunningSum (fun x => x.address) (fun x => x.bytes.length) address out.items := by
  induction lines generalizing n address out with
  | nil => exact Except.ok.inj h ▸ trivial
  | cons line rest ih =>
    unfold assembleFrom at h
    split at h
    · exact ih h
    · split at h
      · cases h
      · split at h
        · cases h
        · next hrest =>
          obtain rfl := Except.ok.inj h
          exact (ih hrest :)
      · split at h
        · cases h
        · next hrest =>
          obtain rfl := Except.ok.inj h
          exact ⟨rfl, ih hrest⟩

/-- Settles O57. -/
theorem assemblyAddresses : Obligations.AssemblyAddresses := by
  intro a table text out h pre post x hitems
  have hsum := RunningSum.address_eq (hitems ▸ assembleFrom_addresses h)
  rwa [Nat.zero_add] at hsum

end Sys2Proof.Machine
end

section
/-! PROOFS. What the entries of the reference tables stand for (R105 to R107): an operand list that matches an entry is
read by the execution engine as an instruction, and the encoder's bytes of that instruction are the entry's. -/

namespace Sys2Proof.Machine

/-! ### Fields -/

theorem littleBytes_length (k n : Nat) : (littleBytes k n).length = k := by
  induction k generalizing n with
  | zero => rfl
  | succ k ih => simp [littleBytes, ih]

theorem littleValue_littleBytes {k n : Nat} (hn : n < 256 ^ k) : littleValue (littleBytes k n) = n := by
  induction k generalizing n with
  | zero => exact (Nat.lt_one_iff.mp hn).symm
  | succ k ih =>
    have hrest : n / 256 < 256 ^ k := Nat.div_lt_of_lt_mul (by rwa [Nat.pow_succ'] at hn)
    simp only [littleBytes, littleValue, BitVec.toNat_ofNat, ih hrest]
    omega

theorem fieldBytes_length (big : Bool) (k n : Nat) : (fieldBytes big k n).length = k := by
  cases big <;> simp [fieldBytes, littleBytes_length]

theorem fieldValue_fieldBytes (big : Bool) {k n : Nat} (hn : n < 256 ^ k) :
    fieldValue big (fieldBytes big k n) = n := by
  cases big <;> simp [fieldValue, fieldBytes, littleValue_littleBytes hn]

/-- The bytes of one placeholder; none for a value its field does not hold (R99, R100). -/
def emitField (big : Bool) (p : Placeholder) (n : Nat) : Option (List Byte) :=
  if n < 256 ^ placeholderSize p then some (fieldBytes big (placeholderSize p) n) else none

theorem emitFields_field (big marker : Bool) (p : Placeholder) (n : Nat) :
    emitFields big [.field marker p] [n] = emitField big p n := by
  simp [emitFields, emitField]

/-! ### Matching -/

theorem matchTemplate_nil {a : Arch} {ts : List Token} {vs : List Nat} :
    matchTemplate a [] ts = some vs ↔ ts = [] ∧ vs = [] := by
  cases ts <;> simp [matchTemplate, eq_comm]

theorem matchTemplate_fixed {a : Arch} {t : Token} {ps : List Pattern} {ts : List Token} {vs : List Nat} :
    matchTemplate a (.fixed t :: ps) ts = some vs ↔ ∃ ts', ts = t :: ts' ∧ matchTemplate a ps ts' = some vs := by
  cases ts <;> simp [matchTemplate, eq_comm, and_comm]

theorem matchTemplate_field {a : Arch} {m : Bool} {p : Placeholder} {ps : List Pattern} {ts : List Token}
    {vs : List Nat} : matchTemplate a (.field m p :: ps) ts = some vs ↔
      ∃ t ts' n ns, ts = t :: ts' ∧ vs = n :: ns ∧ placeholderToken a m t = some n ∧
        matchTemplate a ps ts' = some ns := by
  cases ts with
  | nil => simp [matchTemplate]
  | cons t ts =>
    cases ht : placeholderToken a m t with
    | none => simp [matchTemplate, ht]
    | some n => cases hts : matchTemplate a ps ts <;> simp [matchTemplate, ht, hts, eq_comm]

/-! ### One entry -/

/-- What matches the entry is read as an instruction by the execution engine, and the encoder makes of that instruction
the bytes that the assembler emits for the entry. -/
def EntrySound (a : Arch) (e : Entry) : Prop :=
  ∀ (ts : List Token) (vs : List Nat), matchTemplate a e.template ts = some vs →
    ∃ j, resolve a { mnemonic := e.mnemonic, operands := ts } = .ok j ∧
      encode j = (emitFields e.bigEndian e.template vs).map fun bytes => e.lead ++ bytes

/-! The five templates of the tables: no operand, one or two names, a name and a field, a field. -/

section
variable {a : Arch} {m t u : Token} {lead : List Byte} {len : Nat} {big : Bool} {i : Instr}

theorem entrySound_none (h : resolve a { mnemonic := m, operands := [] } = .ok i) (henc : encode i = some lead) :
    EntrySound a { mnemonic := m, lead := lead, len := len, template := [], bigEndian := big } := by
  intro ts vs hmatch
  obtain ⟨rfl, rfl⟩ := matchTemplate_nil.mp hmatch
  exact ⟨i, h, by simp [henc, emitFields]⟩

theorem entrySound_name (h : resolve a { mnemonic := m, operands := [t] } = .ok i) (henc : encode i = some lead) :
    EntrySound a { mnemonic := m, lead := lead, len := len, template := [.fixed t], bigEndian := big } := by
  intro ts vs hmatch
  obtain ⟨_, rfl, hnil⟩ := matchTemplate_fixed.mp hmatch
  obtain ⟨rfl, rfl⟩ := matchTemplate_nil.mp hnil
  exact ⟨i, h, by simp [henc, emitFields]⟩

theorem entrySound_names (h : resolve a { mnemonic := m, operands := [t, u] } = .ok i)
    (henc : encode i = some lead) :
    EntrySound a { mnemonic := m, lead := lead, len := len, template := [.fixed t, .fixed u], bigEndian := big } := by
  intro ts vs hmatch
  obtain ⟨_, rfl, hrest⟩ := matchTemplate_fixed.mp hmatch
  obtain ⟨_, rfl, hnil⟩ := matchTemplate_fixed.mp hrest
  obtain ⟨rfl, rfl⟩ := matchTemplate_nil.mp hnil
  exact ⟨i, h, by simp [henc, emitFields]⟩

theorem entrySound_nameField {marker : Bool} {p : Placeholder} {make : Nat → Instr}
    (h : ∀ u n, placeholderToken a marker u = some n →
      resolve a { mnemonic := m, operands := [t, u] } = .ok (make n))
    (henc : ∀ n, encode (make n) = (emitField big p n).map fun bytes => lead ++ bytes) :
    EntrySound a { mnemonic := m, lead := lead, len := len, template := [.fixed t, .field marker p]
                   bigEndian := big } := by
  intro ts vs hmatch
  obtain ⟨_, rfl, hrest⟩ := matchTemplate_fixed.mp hmatch
  obtain ⟨u, _, n, _, rfl, rfl, hu, hnil⟩ := matchTemplate_field.mp hrest
  obtain ⟨rfl, rfl⟩ := matchTemplate_nil.mp hnil
  exact ⟨make n, h u n hu, emitFields_field big marker p n ▸ henc n⟩

theorem entrySound_field {marker : Bool} {p : Placeholder} {make : Nat → Instr}
    (h : ∀ u n, placeholderToken a marker u = some n →
      resolve a { mnemonic := m, operands := [u] } = .ok (make n))
    (henc : ∀ n, encode (make n) = (emitField big p n).map fun bytes => lead ++ bytes) :
    EntrySound a { mnemonic := m, lead := lead, len := len, template := [.field marker p], bigEndian := big } := by
  intro ts vs hmatch
  obtain ⟨u, _, n, _, rfl, rfl, hu, hnil⟩ := matchTemplate_field.mp hmatch
  obtain ⟨rfl, rfl⟩ := matchTemplate_nil.mp hnil
  exact ⟨make n, h u n hu, emitFields_field big marker p n ▸ henc n⟩

end

/-! ### The rows -/

/-- A literal is encoded exactly if its 16-bit field holds it. -/
theorem encode_choose_word {row : Word → Instr} {wide : Nat → Instr} {lead : List Byte} (big : Bool)
    (hrow : ∀ x, encode (row x) = some (lead ++ fieldBytes big 2 x.toNat)) (hwide : ∀ n, encode (wide n) = none)
    (n : Nat) : encode (if n < 2 ^ 16 then row (BitVec.ofNat 16 n) else wide n) =
      (emitField big .imm16 n).map fun bytes => lead ++ bytes := by
  have hsize : (256 : Nat) ^ placeholderSize .imm16 = 2 ^ 16 := by decide
  unfold emitField
  rw [hsize]
  split
  · next hn => simp only [hrow, BitVec.toNat_ofNat, Nat.mod_eq_of_lt hn, Option.map_some]; rfl
  · exact hwide n

/-- A literal is encoded exactly if its 8-bit field holds it. -/
theorem encode_choose_byte {row : Byte → Instr} {wide : Nat → Instr} {lead : List Byte}
    (hrow : ∀ x, encode (row x) = some (lead ++ [x])) (hwide : ∀ n, encode (wide n) = none) (n : Nat) :
    encode (if n < 2 ^ 8 then row (BitVec.ofNat 8 n) else wide n) =
      (emitField false .imm8 n).map fun bytes => lead ++ bytes := by
  have hsize : (256 : Nat) ^ placeholderSize .imm8 = 2 ^ 8 := by decide
  unfold emitField
  rw [hsize]
  split
  · simp only [hrow, Option.map_some]; rfl
  · exact hwide n

theorem rowR16Imm16_sound (row : R16 → Word → Instr) {m : Token} {mm : Mnem86} {lead : R16 → List Byte}
    {other : R16 → Nat → Instr} (len : Nat) (hm : mnemonics86.lookup m = some mm)
    (hform : ∀ x n, form86 mm [.r16 x, .lit n] =
      some (if n < 2 ^ 16 then row x (BitVec.ofNat 16 n) else other x n))
    (hrow : ∀ x n, encode (row x n) = some (lead x ++ wordLE n)) (hother : ∀ x n, encode (other x n) = none) :
    ∀ e ∈ rowR16Imm16 m lead len, EntrySound .core86 e :=
  List.forall_mem_map.mpr fun x _ => entrySound_nameField
    (fun _ n hu => resolve86_two hm (cls86_nameR16 x) (cls86_of_placeholderToken hu) (hform x n))
    (encode_choose_word false (fun v => wordLE_eq_fieldBytes v ▸ hrow x v) (hother x))

theorem rowR8Imm8_sound (row : R8 → Byte → Instr) {m : Token} {mm : Mnem86} {lead : R8 → List Byte}
    {other : R8 → Nat → Instr} (len : Nat) (hm : mnemonics86.lookup m = some mm)
    (hform : ∀ x n, form86 mm [.r8 x, .lit n] = some (if n < 2 ^ 8 then row x (BitVec.ofNat 8 n) else other x n))
    (hrow : ∀ x n, encode (row x n) = some (lead x ++ [n])) (hother : ∀ x n, encode (other x n) = none) :
    ∀ e ∈ rowR8Imm8 m lead len, EntrySound .core86 e :=
  List.forall_mem_map.mpr fun x _ => entrySound_nameField
    (fun _ n hu => resolve86_two hm (cls86_nameR8 x) (cls86_of_placeholderToken hu) (hform x n))
    (encode_choose_byte (hrow x) (hother x))

theorem rowR16R16_sound (row : R16 → R16 → Instr) {m : Token} {mm : Mnem86} {op : Byte}
    (hm : mnemonics86.lookup m = some mm) (hform : ∀ x y, form86 mm [.r16 x, .r16 y] = some (row x y))
    (hrow : ∀ x y, encode (row x y) = some [op, modrm (numR16 x) (numR16 y)]) :
    ∀ e ∈ rowR16R16 m op, EntrySound .core86 e := by
  intro e he
  obtain ⟨x, -, he⟩ := List.mem_flatMap.mp he
  obtain ⟨y, -, rfl⟩ := List.mem_map.mp he
  exact entrySound_names (resolve86_two hm (cls86_nameR16 x) (cls86_nameR16 y) (hform x y)) (hrow x y)

theorem rowR8R8_sound (row : R8 → R8 → Instr) {m : Token} {mm : Mnem86} {op : Byte}
    (hm : mnemonics86.lookup m = some mm) (hform : ∀ x y, form86 mm [.r8 x, .r8 y] = some (row x y))
    (hrow : ∀ x y, encode (row x y) = some [op, modrm (numR8 x) (numR8 y)]) :
    ∀ e ∈ rowR8R8 m op, EntrySound .core86 e := by
  intro e he
  obtain ⟨x, -, he⟩ := List.mem_flatMap.mp he
  obtain ⟨y, -, rfl⟩ := List.mem_map.mp he
  exact entrySound_names (resolve86_two hm (cls86_nameR8 x) (cls86_nameR8 y) (hform x y)) (hrow x y)

theorem rowR16_sound (row : R16 → Instr) {m : Token} {mm : Mnem86} {lead : R16 → List Byte} (len : Nat)
    (hm : mnemonics86.lookup m = some mm) (hform : ∀ x, form86 mm [.r16 x] = some (row x))
    (hrow : ∀ x, encode (row x) = some (lead x)) : ∀ e ∈ rowR16 m lead len, EntrySound .core86 e :=
  List.forall_mem_map.mpr fun x _ => entrySound_name (resolve86_one hm (cls86_nameR16 x) (hform x)) (hrow x)

theorem rowR8_sound (row : R8 → Instr) {m : Token} {mm : Mnem86} {lead : R8 → List Byte} (len : Nat)
    (hm : mnemonics86.lookup m = some mm) (hform : ∀ x, form86 mm [.r8 x] = some (row x))
    (hrow : ∀ x, encode (row x) = some (lead x)) : ∀ e ∈ rowR8 m lead len, EntrySound .core86 e :=
  List.forall_mem_map.mpr fun x _ => entrySound_name (resolve86_one hm (cls86_nameR8 x) (hform x)) (hrow x)

theorem rowOne_sound {a : Arch} {m : Token} {lead : List Byte} {len : Nat} {template : List Pattern}
    (h : EntrySound a { mnemonic := m, lead := lead, len := len, template := template }) :
    ∀ e ∈ rowOne m lead len template, EntrySound a e := List.forall_mem_singleton.mpr h

theorem rowRN_sound {m : Token} {lead : RN → List Byte} {len : Nat} {template : RN → List Pattern}
    (h : ∀ x, EntrySound .core51 { mnemonic := m, lead := lead x, len := len, template := template x }) :
    ∀ e ∈ rowRN m lead len template, EntrySound .core51 e := List.forall_mem_map.mpr fun x _ => h x

theorem rowRI_sound {m : Token} {lead : RI → List Byte} {template : RI → List Pattern}
    (h : ∀ x, EntrySound .core51 { mnemonic := m, lead := lead x, len := 1, template := template x }) :
    ∀ e ∈ rowRI m lead template, EntrySound .core51 e := List.forall_mem_map.mpr fun x _ => h x

/-- `JE`, `JZ`, `JNE`, `JNZ`. -/
theorem rowJump86_sound (row : Byte → Instr) {m : Token} {mm : Mnem86} {lead : List Byte} {wide : Nat → Instr}
    (hm : mnemonics86.lookup m = some mm)
    (hform : ∀ n, form86 mm [.lit n] = some (if n < 2 ^ 8 then row (BitVec.ofNat 8 n) else wide n))
    (hrow : ∀ n, encode (row n) = some (lead ++ [n])) (hwide : ∀ n, encode (wide n) = none) :
    ∀ e ∈ rowOne m lead 2 [.field false .rel8], EntrySound .core86 e :=
  rowOne_sound (entrySound_field (fun _ n hu => resolve86_one hm (cls86_of_placeholderToken hu) (hform n))
    (encode_choose_byte hrow hwide))

/-- `SJMP`, `JZ`, `JNZ`, `JC`, `JNC`. -/
theorem rowJump51_sound (row : Byte → Instr) {m : Token} {mm : Mnem51} {lead : List Byte} {wide : Nat → Instr}
    (hm : mnemonics51.lookup m = some mm)
    (hform : ∀ n, form51 mm [.bare n] = some (if n < 2 ^ 8 then row (BitVec.ofNat 8 n) else wide n))
    (hrow : ∀ n, encode (row n) = some (lead ++ [n])) (hwide : ∀ n, encode (wide n) = none) :
    ∀ e ∈ rowOne m lead 2 [.field false .rel8], EntrySound .core51 e :=
  rowOne_sound (entrySound_field (fun _ n hu => resolve51_one hm (cls51_of_placeholderToken hu) (hform n))
    (encode_choose_byte hrow hwide))

/-- `MOV A, #imm8`, `MOV B, #imm8`, `MOV Rn, #imm8`. -/
theorem movImm51_sound (row : Byte → Instr) {d : Loc51} {t : Token} {lead : List Byte} {len : Nat}
    (ht : cls51 t = .ok (.loc d))
    (hform : ∀ n, movForm51 d (.imm n) = if n < 2 ^ 8 then row (BitVec.ofNat 8 n) else .i51MovForm d (.imm n))
    (hrow : ∀ n, encode (row n) = some (lead ++ [n])) :
    EntrySound .core51 { mnemonic := ['M', 'O', 'V'], lead := lead, len := len
                         template := [.fixed t, .field true .imm8] } :=
  entrySound_nameField
    (fun _ n hu => resolve51_two rfl ht (cls51_of_placeholderToken hu) (congrArg some (hform n)))
    (encode_choose_byte hrow fun _ => rfl)

/-- `MOV DPTR, #imm16`. -/
theorem movDptr51_sound : EntrySound .core51 movDptrEntry :=
  entrySound_nameField (fun _ _ hu => resolve51_two rfl rfl (cls51_of_placeholderToken hu) rfl)
    (encode_choose_word true (row := .i51MovDptrImm) (lead := [0x90]) (fun n => wordBE_eq_fieldBytes n ▸ rfl)
      fun _ => rfl)

/-- `JMP rel16`. -/
theorem jmp86_sound : ∀ e ∈ rowOne ['J', 'M', 'P'] [0xE9] 3 [.field false .rel16], EntrySound .core86 e :=
  rowOne_sound (entrySound_field (fun _ _ hu => resolve86_one rfl (cls86_of_placeholderToken hu) rfl)
    (encode_choose_word false (row := .x86Jmp) (lead := [0xE9]) (fun t => wordLE_eq_fieldBytes t ▸ rfl)
      fun _ => rfl))

/-- The rows of R106 stand for the instructions of the same names. -/
theorem optab86_sound : ∀ row ∈ optab86, ∀ e ∈ row, EntrySound .core86 e := by
  unfold optab86
  simp only [List.forall_mem_cons]
  exact ⟨rowR16Imm16_sound .x86MovR16Imm16 _ rfl (fun _ _ => rfl) (fun _ _ => rfl) fun _ _ => rfl,
    rowR8Imm8_sound .x86MovR8Imm8 _ rfl (fun _ _ => rfl) (fun _ _ => rfl) fun _ _ => rfl,
    rowR16R16_sound .x86MovR16R16 rfl (fun _ _ => rfl) fun _ _ => rfl,
    rowR8R8_sound .x86MovR8R8 rfl (fun _ _ => rfl) fun _ _ => rfl,
    rowR16Imm16_sound .x86AddR16Imm16 _ rfl (fun _ _ => rfl) (fun _ _ => rfl) fun _ _ => rfl,
    rowR8Imm8_sound .x86AddR8Imm8 _ rfl (fun _ _ => rfl) (fun _ _ => rfl) fun _ _ => rfl,
    rowR16R16_sound .x86AddR16R16 rfl (fun _ _ => rfl) fun _ _ => rfl,
    rowR8R8_sound .x86AddR8R8 rfl (fun _ _ => rfl) fun _ _ => rfl,
    rowR16Imm16_sound .x86SubR16Imm16 _ rfl (fun _ _ => rfl) (fun _ _ => rfl) fun _ _ => rfl,
    rowR8Imm8_sound .x86SubR8Imm8 _ rfl (fun _ _ => rfl) (fun _ _ => rfl) fun _ _ => rfl,
    rowR16R16_sound .x86SubR16R16 rfl (fun _ _ => rfl) fun _ _ => rfl,
    rowR8R8_sound .x86SubR8R8 rfl (fun _ _ => rfl) fun _ _ => rfl,
    rowR16Imm16_sound .x86CmpR16Imm16 _ rfl (fun _ _ => rfl) (fun _ _ => rfl) fun _ _ => rfl,
    rowR8Imm8_sound .x86CmpR8Imm8 _ rfl (fun _ _ => rfl) (fun _ _ => rfl) fun _ _ => rfl,
    rowR16R16_sound .x86CmpR16R16 rfl (fun _ _ => rfl) fun _ _ => rfl,
    rowR8R8_sound .x86CmpR8R8 rfl (fun _ _ => rfl) fun _ _ => rfl,
    rowR16_sound .x86IncR16 _ rfl (fun _ => rfl) fun _ => rfl,
    rowR8_sound .x86IncR8 _ rfl (fun _ => rfl) fun _ => rfl,
    rowR16_sound .x86DecR16 _ rfl (fun _ => rfl) fun _ => rfl,
    rowR8_sound .x86DecR8 _ rfl (fun _ => rfl) fun _ => rfl,
    rowR16Imm16_sound .x86AndR16Imm16 _ rfl (fun _ _ => rfl) (fun _ _ => rfl) fun _ _ => rfl,
    rowR8Imm8_sound .x86AndR8Imm8 _ rfl (fun _ _ => rfl) (fun _ _ => rfl) fun _ _ => rfl,
    rowR16R16_sound .x86AndR16R16 rfl (fun _ _ => rfl) fun _ _ => rfl,
    rowR8R8_sound .x86AndR8R8 rfl (fun _ _ => rfl) fun _ _ => rfl,
    rowR16Imm16_sound .x86OrR16Imm16 _ rfl (fun _ _ => rfl) (fun _ _ => rfl) fun _ _ => rfl,
    rowR8Imm8_sound .x86OrR8Imm8 _ rfl (fun _ _ => rfl) (fun _ _ => rfl) fun _ _ => rfl,
    rowR16R16_sound .x86OrR16R16 rfl (fun _ _ => rfl) fun _ _ => rfl,
    rowR8R8_sound .x86OrR8R8 rfl (fun _ _ => rfl) fun _ _ => rfl,
    rowR16Imm16_sound .x86XorR16Imm16 _ rfl (fun _ _ => rfl) (fun _ _ => rfl) fun _ _ => rfl,
    rowR8Imm8_sound .x86XorR8Imm8 _ rfl (fun _ _ => rfl) (fun _ _ => rfl) fun _ _ => rfl,
    rowR16R16_sound .x86XorR16R16 rfl (fun _ _ => rfl) fun _ _ => rfl,
    rowR8R8_sound .x86XorR8R8 rfl (fun _ _ => rfl) fun _ _ => rfl,
    jmp86_sound,
    rowJump86_sound .x86Je rfl (fun _ => rfl) (fun _ => rfl) fun _ => rfl,
    rowJump86_sound .x86Jz rfl (fun _ => rfl) (fun _ => rfl) fun _ => rfl,
    rowJump86_sound .x86Jne rfl (fun _ => rfl) (fun _ => rfl) fun _ => rfl,
    rowJump86_sound .x86Jnz rfl (fun _ => rfl) (fun _ => rfl) fun _ => rfl,
    rowOne_sound (entrySound_none (i := .x86Hlt) (resolve86_zero rfl rfl) rfl), nofun⟩

/-- The rows of R107 stand for the instructions of the same names. -/
theorem optab51_sound : ∀ row ∈ optab51, ∀ e ∈ row, EntrySound .core51 e := by
  unfold optab51
  simp only [List.forall_mem_cons]
  exact ⟨rowOne_sound (movImm51_sound .i51MovAImm (d := .A) rfl (fun _ => rfl) fun _ => rfl),
    rowOne_sound (movImm51_sound .i51MovBImm (d := .B) rfl (fun _ => rfl) fun _ => rfl),
    rowRN_sound fun x => movImm51_sound (.i51MovRnImm x) (cls51_nameRN x) (fun _ => rfl) fun _ => rfl,
    ⟨movDptr51_sound, nofun⟩,
    rowRN_sound fun x => entrySound_names (i := .i51MovARn x) (resolve51_two rfl rfl (cls51_nameRN x) rfl) rfl,
    rowRN_sound fun x => entrySound_names (i := .i51MovRnA x) (resolve51_two rfl (cls51_nameRN x) rfl rfl) rfl,
    rowOne_sound (entrySound_names (i := .i51MovAB) (resolve51_two rfl rfl rfl rfl) rfl),
    rowOne_sound (entrySound_names (i := .i51MovBA) (resolve51_two rfl rfl rfl rfl) rfl),
    rowRN_sound fun x => entrySound_names (i := .i51MovBRn x) (resolve51_two rfl rfl (cls51_nameRN x) rfl) rfl,
    rowRN_sound fun x => entrySound_names (i := .i51MovRnB x) (resolve51_two rfl (cls51_nameRN x) rfl rfl) rfl,
    rowOne_sound (entrySound_names (i := .i51MovxADptr) (resolve51_two rfl rfl rfl rfl) rfl),
    rowOne_sound (entrySound_names (i := .i51MovxDptrA) (resolve51_two rfl rfl rfl rfl) rfl),
    rowRI_sound fun x => entrySound_names (i := .i51MovxARi x) (resolve51_two rfl rfl (cls51_nameInd x) rfl) rfl,
    rowRI_sound fun x => entrySound_names (i := .i51MovxRiA x) (resolve51_two rfl (cls51_nameInd x) rfl rfl) rfl,
    rowOne_sound (entrySound_name (i := .i51IncA) (resolve51_one rfl rfl rfl) rfl),
    rowOne_sound (entrySound_name (i := .i51IncB) (resolve51_one rfl rfl rfl) rfl),
    rowRN_sound fun x => entrySound_name (i := .i51IncRn x) (resolve51_one rfl (cls51_nameRN x) rfl) rfl,
    rowOne_sound (entrySound_name (i := .i51IncDptr) (resolve51_one rfl rfl rfl) rfl),
    rowOne_sound (entrySound_name (i := .i51DecA) (resolve51_one rfl rfl rfl) rfl),
    rowOne_sound (entrySound_name (i := .i51DecB) (resolve51_one rfl rfl rfl) rfl),
    rowRN_sound fun x => entrySound_name (i := .i51DecRn x) (resolve51_one rfl (cls51_nameRN x) rfl) rfl,
    rowOne_sound (entrySound_name (i := .i51DecDptr) (resolve51_one rfl rfl rfl) rfl),
    rowOne_sound (entrySound_name (i := .i51MulAB) (resolve51_one rfl rfl rfl) rfl),
    rowOne_sound (entrySound_name (i := .i51DivAB) (resolve51_one rfl rfl rfl) rfl),
    rowOne_sound (entrySound_name (i := .i51RlcA) (resolve51_one rfl rfl rfl) rfl),
    rowOne_sound (entrySound_name (i := .i51RrcA) (resolve51_one rfl rfl rfl) rfl),
    rowOne_sound (entrySound_name (i := .i51ClrC) (resolve51_one rfl rfl rfl) rfl),
    rowOne_sound (entrySound_name (i := .i51SetbC) (resolve51_one rfl rfl rfl) rfl),
    rowOne_sound (entrySound_name (i := .i51CplC) (resolve51_one rfl rfl rfl) rfl),
    rowJump51_sound .i51Sjmp rfl (fun _ => rfl) (fun _ => rfl) fun _ => rfl,
    rowJump51_sound .i51Jz rfl (fun _ => rfl) (fun _ => rfl) fun _ => rfl,
    rowJump51_sound .i51Jnz rfl (fun _ => rfl) (fun _ => rfl) fun _ => rfl,
    rowJump51_sound .i51Jc rfl (fun _ => rfl) (fun _ => rfl) fun _ => rfl,
    rowJump51_sound .i51Jnc rfl (fun _ => rfl) (fun _ => rfl) fun _ => rfl, nofun⟩

/-- Every entry of a reference table is sound. -/
theorem entrySound_of_mem {a : Arch} {e : Entry} (h : e ∈ tableEntries (optab a)) : EntrySound a e := by
  obtain ⟨row, hrow, he⟩ := List.mem_flatten.mp h
  cases a with
  | core86 => exact optab86_sound row hrow e he
  | core51 => exact optab51_sound row hrow e he

theorem optab_wellFormed {a : Arch} {e : Entry} (h : e ∈ tableEntries (optab a)) : entryWellFormed e = true := by
  obtain ⟨row, hrow, he⟩ := List.mem_flatten.mp h
  have hall : ∀ a, (optab a).all (fun row => row.all entryWellFormed) = true
    | .core86 => by decide
    | .core51 => by decide
  exact List.all_eq_true.mp (List.all_eq_true.mp (hall a) row hrow) e he

end Sys2Proof.Machine
end

section
/-! PROOFS. The encoder and the decoder (O50 to O53): each instruction of core51 and each reachable one of core86 is
spelled by the entry its first byte selects; core86's other instructions decode as the entry that shadows theirs
(R108). -/

namespace Sys2Proof.Machine

open Sys2Proof.Safety

/-! ### An entry with values for its placeholders -/

/-- There is one value for each placeholder, and its field holds it (R99). -/
def FitsFields : List Pattern → List Nat → Prop
  | [], vs => vs = []
  | .fixed _ :: ps, vs => FitsFields ps vs
  | .field _ p :: ps, v :: vs => v < 256 ^ placeholderSize p ∧ FitsFields ps vs
  | .field _ _ :: _, [] => False

theorem placeholderSize_pos (p : Placeholder) : 0 < placeholderSize p := by cases p <;> decide

/-- A field of `k` bytes holds what `2 * k` hexadecimal digits spell. -/
theorem pow_bytes_eq_pow_digits (k : Nat) : 256 ^ k = 16 ^ (2 * k) := by
  rw [Nat.pow_mul]

/-- The operands an entry prints match the entry (R96, R98). -/
theorem matchTemplate_operandTokens (a : Arch) {ps : List Pattern} {vs : List Nat} (h : FitsFields ps vs) :
    matchTemplate a ps (operandTokens ps vs) = some vs := by
  induction ps generalizing vs with
  | nil => exact matchTemplate_nil.mpr ⟨rfl, h⟩
  | cons p ps ih =>
    cases p with
    | fixed t => exact matchTemplate_fixed.mpr ⟨_, rfl, ih h⟩
    | field m p =>
      cases vs with
      | nil => cases h
      | cons v vs =>
        obtain ⟨hv, hvs⟩ := h
        have htoken := placeholderToken_fieldToken a m (Nat.mul_pos Nat.two_pos (placeholderSize_pos p))
          (pow_bytes_eq_pow_digits _ ▸ hv)
        exact matchTemplate_field.mpr ⟨_, _, v, vs, rfl, rfl, htoken, ih hvs⟩

/-- The bytes emitted for values that fit have the template's size, and the values are read back from them (R92,
R99). -/
theorem exists_emitFields (big : Bool) {ps : List Pattern} {vs : List Nat} (h : FitsFields ps vs) :
    ∃ bytes, emitFields big ps vs = some bytes ∧ bytes.length = templateSize ps ∧
      ∀ rest, fieldValues big ps (bytes ++ rest) = vs := by
  induction ps generalizing vs with
  | nil => exact ⟨[], rfl, rfl, fun _ => h.symm⟩
  | cons p ps ih =>
    cases p with
    | fixed t => exact ih h
    | field m p =>
      cases vs with
      | nil => cases h
      | cons v vs =>
        obtain ⟨hv, hvs⟩ := h
        obtain ⟨bytes, hemit, hlen, hread⟩ := ih hvs
        have hfield := fieldBytes_length big (placeholderSize p) v
        refine ⟨fieldBytes big (placeholderSize p) v ++ bytes, by simp [emitFields, hv, hemit],
          by simp [templateSize, hfield, hlen], fun rest => ?_⟩
        simp only [fieldValues, List.append_assoc, List.take_left' hfield, List.drop_left' hfield,
          fieldValue_fieldBytes big hv, hread]

/-- The instruction is written as the entry with these values for its placeholders. -/
structure Spells (e : Entry) (vs : List Nat) (i : Instr) : Prop where
  record : instrRecord i = { mnemonic := e.mnemonic, operands := operandTokens e.template vs }
  fits : FitsFields e.template vs

/-! ### Decoding what an entry spells -/

/-- Only well-formed instructions have an encoding (R113). -/
theorem wellFormed_of_encode {i : Instr} {bs : List Byte} (h : encode i = some bs) : wellFormed i = true := by
  cases i with
  | x86MovForm | x86AddForm | x86SubForm | x86CmpForm | x86AndForm | x86OrForm | x86XorForm | x86JmpLit | x86JeLit
  | x86JzLit | x86JneLit | x86JnzLit | i51MovForm | i51MovDptrLit | i51SjmpLit | i51JzLit | i51JnzLit | i51JcLit
  | i51JncLit => cases h
  | _ => rfl

theorem resolve_of_spells {i : Instr} {e : Entry} {vs : List Nat} (hs : Spells e vs i) (hwf : wellFormed i = true) :
    resolve i.arch { mnemonic := e.mnemonic, operands := operandTokens e.template vs } = .ok i :=
  hs.record ▸ resolve_instrRecord hwf

/-- The encoding is the entry's lead and the bytes of the placeholders' values. -/
theorem encode_of_spells {i : Instr} {e : Entry} {vs : List Nat} (he : e ∈ tableEntries (optab i.arch))
    (hs : Spells e vs i) (hwf : wellFormed i = true) :
    encode i = (emitFields e.bigEndian e.template vs).map fun bytes => e.lead ++ bytes := by
  obtain ⟨j, hj, henc⟩ := entrySound_of_mem he _ _ (matchTemplate_operandTokens i.arch hs.fits)
  rw [resolve_of_spells hs hwf] at hj
  rwa [Except.ok.inj hj]

/-- Wherever the bytes begin a buffer, the decoder takes them, and they are the instruction. -/
def RoundTrips (a : Arch) (i : Instr) (bs : List Byte) : Prop :=
  ∀ rest, ∃ d, decodeStep (optab a) (bs ++ rest) = some (d, bs.length) ∧ decodedInstr a d = some i

theorem RoundTrips.decode {a : Arch} {i : Instr} {bs : List Byte} (h : RoundTrips a i bs) (rest : List Byte) :
    decode a (bs ++ rest) = some (i, bs.length) := by
  obtain ⟨d, hstep, hd⟩ := h rest
  simp [Sys2Proof.decode, hstep, hd]

theorem RoundTrips.length_pos {a : Arch} {i : Instr} {bs : List Byte} (h : RoundTrips a i bs) : 0 < bs.length := by
  obtain ⟨d, hstep, -⟩ := h []
  exact (decodeStep_taken (fun e he => optab_wellFormed he) hstep).1

/-- The entry that the first byte of an instruction's encoding selects. -/
def selectedEntry (i : Instr) : Option Entry :=
  ((encode i).bind List.head?).bind (selectEntry (optab i.arch))

theorem roundTrips_of_spells {i : Instr} {e : Entry} {vs : List Nat} {bs : List Byte} (henc : encode i = some bs)
    (hselected : selectedEntry i = some e) (hs : Spells e vs i) : RoundTrips i.arch i bs := by
  intro rest
  have hwf := wellFormed_of_encode henc
  obtain ⟨b, tail, rfl, hselect⟩ : ∃ b tail, bs = b :: tail ∧ selectEntry (optab i.arch) b = some e := by
    rw [selectedEntry, henc] at hselected
    cases bs with
    | nil => cases hselected
    | cons b tail => exact ⟨b, tail, rfl, hselected⟩
  have he := mem_of_selectEntry hselect
  obtain ⟨bytes, hemit, hsize, hread⟩ := exists_emitFields e.bigEndian hs.fits
  have hbytes : b :: tail = e.lead ++ bytes := by
    rw [encode_of_spells he hs hwf, hemit] at henc
    exact (Option.some.inj henc).symm
  have hlen : (b :: tail).length = e.len := by
    rw [hbytes, List.length_append, hsize, (entryWellFormed_iff.mp (optab_wellFormed he)).2]
  have hfields : (b :: (tail ++ rest)).drop e.lead.length = bytes ++ rest := by
    rw [← List.cons_append, hbytes, List.append_assoc, List.drop_left]
  have hle : e.len ≤ (tail ++ rest).length + 1 := by
    rw [← hlen, List.length_append, List.length_cons]
    omega
  refine ⟨.known e vs, ?_, ?_⟩
  · rw [List.cons_append, decodeStep_fits hselect hle, hfields, hread, hlen]
  · simp [decodedInstr, decodedRecord, resolve_of_spells hs hwf]

/-! ### Each instruction's entry -/

/-- Every encodable instruction of core51 is spelled by the entry its first byte selects: all 85 are reachable
(R108). -/
theorem exists_selected51 {i : Instr} {bs : List Byte} (hi : i.arch = .core51) (h : encode i = some bs) :
    ∃ e vs, selectedEntry i = some e ∧ Spells e vs i := by
  cases i with
  | i51MovAImm n | i51MovBImm n => exact ⟨_, [n.toNat], rfl, rfl, n.isLt, rfl⟩
  | i51MovRnImm r n => cases r <;> exact ⟨_, [n.toNat], rfl, rfl, n.isLt, rfl⟩
  | i51MovDptrImm n => exact ⟨_, [n.toNat], rfl, rfl, n.isLt, rfl⟩
  | i51MovARn r | i51MovRnA r | i51MovBRn r | i51MovRnB r | i51IncRn r | i51DecRn r =>
    cases r <;> exact ⟨_, [], rfl, rfl, rfl⟩
  | i51MovxARi x | i51MovxRiA x => cases x <;> exact ⟨_, [], rfl, rfl, rfl⟩
  | i51MovAB | i51MovBA | i51MovxADptr | i51MovxDptrA | i51IncA | i51IncB | i51IncDptr | i51DecA | i51DecB
  | i51DecDptr | i51MulAB | i51DivAB | i51RlcA | i51RrcA | i51ClrC | i51SetbC | i51CplC =>
    exact ⟨_, [], rfl, rfl, rfl⟩
  | i51Sjmp t | i51Jz t | i51Jnz t | i51Jc t | i51Jnc t => exact ⟨_, [t.toNat], rfl, rfl, t.isLt, rfl⟩
  | i51MovForm | i51MovDptrLit | i51SjmpLit | i51JzLit | i51JnzLit | i51JcLit | i51JncLit => cases h
  | _ => cases hi

/-- Every reachable instruction of core86 is spelled by the entry its first byte selects (R108). -/
theorem exists_selected86 {i : Instr} (h : reachable86 i = true) :
    i.arch = .core86 ∧ (∃ bs, encode i = some bs) ∧ ∃ e vs, selectedEntry i = some e ∧ Spells e vs i := by
  cases i with
  | x86MovR16Imm16 r n => cases r <;> exact ⟨rfl, ⟨_, rfl⟩, _, [n.toNat], rfl, rfl, n.isLt, rfl⟩
  | x86MovR8Imm8 r n => cases r <;> exact ⟨rfl, ⟨_, rfl⟩, _, [n.toNat], rfl, rfl, n.isLt, rfl⟩
  | x86AddR16Imm16 r n | x86AddR8Imm8 r n =>
    obtain rfl := of_decide_eq_true h
    exact ⟨rfl, ⟨_, rfl⟩, _, [n.toNat], rfl, rfl, n.isLt, rfl⟩
  | x86MovR16R16 d s | x86MovR8R8 d s | x86AddR16R16 d s | x86AddR8R8 d s | x86SubR16R16 d s | x86SubR8R8 d s
  | x86CmpR16R16 d s | x86CmpR8R8 d s | x86AndR16R16 d s | x86AndR8R8 d s | x86OrR16R16 d s | x86OrR8R8 d s
  | x86XorR16R16 d s | x86XorR8R8 d s =>
    obtain ⟨rfl, rfl⟩ := of_decide_eq_true h
    exact ⟨rfl, ⟨_, rfl⟩, _, [], rfl, rfl, rfl⟩
  | x86IncR16 r | x86DecR16 r => cases r <;> exact ⟨rfl, ⟨_, rfl⟩, _, [], rfl, rfl, rfl⟩
  | x86IncR8 r =>
    obtain rfl := of_decide_eq_true h
    exact ⟨rfl, ⟨_, rfl⟩, _, [], rfl, rfl, rfl⟩
  | x86Jmp t | x86Je t | x86Jne t => exact ⟨rfl, ⟨_, rfl⟩, _, [t.toNat], rfl, rfl, t.isLt, rfl⟩
  | x86Hlt => exact ⟨rfl, ⟨_, rfl⟩, _, [], rfl, rfl, rfl⟩
  | _ => cases h

theorem roundTrips51 {i : Instr} {bs : List Byte} (hi : i.arch = .core51) (h : encode i = some bs) :
    RoundTrips .core51 i bs := by
  obtain ⟨e, vs, hselected, hs⟩ := exists_selected51 hi h
  exact hi ▸ roundTrips_of_spells h hselected hs

theorem roundTrips86 {i : Instr} {bs : List Byte} (hi : reachable86 i = true) (h : encode i = some bs) :
    RoundTrips .core86 i bs := by
  obtain ⟨harch, -, e, vs, hselected, hs⟩ := exists_selected86 hi
  exact harch ▸ roundTrips_of_spells h hselected hs

/-- Settles O51. -/
theorem decodeEncode : Obligations.DecodeEncode := by
  refine ⟨fun i bs rest hi henc => (roundTrips51 hi henc).decode rest, fun i rest hi => ?_⟩
  obtain ⟨-, ⟨bs, henc⟩, -⟩ := exists_selected86 hi
  exact ⟨bs, henc, (roundTrips86 hi henc).decode rest⟩

/-! ### Programs -/

/-- A program of instructions that round-trip disassembles to itself, wherever it stands. -/
theorem disassembleFrom_roundTrips {a : Arch} (p : List (Instr × List Byte)) (hp : ∀ x ∈ p, RoundTrips a x.1 x.2)
    (fuel address : Nat) (hfuel : (p.flatMap fun x => x.2).length ≤ fuel) :
    (disassembleFrom (optab a) fuel address (p.flatMap fun x => x.2)).map (fun l => decodedInstr a l.decoded) =
      p.map fun x => some x.1 := by
  induction p generalizing fuel address with
  | nil => cases fuel <;> rfl
  | cons x p ih =>
    obtain ⟨hx, hrest⟩ := List.forall_mem_cons.mp hp
    obtain ⟨d, hstep, hd⟩ := hx (p.flatMap fun x => x.2)
    have hpos := hx.length_pos
    rw [List.flatMap_cons, List.length_append] at hfuel
    cases fuel with
    | zero => omega
    | succ fuel =>
      rw [List.flatMap_cons, disassembleFrom_succ hstep, List.drop_left, List.map_cons, List.map_cons, hd,
        ih hrest fuel _ (by omega)]

/-- Settles O53. -/
theorem roundTripPrograms : Obligations.RoundTripPrograms :=
  ⟨fun p hp => disassembleFrom_roundTrips p (fun x hx => roundTrips51 (hp x hx).1 (hp x hx).2) _ 0 le_rfl,
    fun p hp => disassembleFrom_roundTrips p (fun x hx => roundTrips86 (hp x hx).1 (hp x hx).2) _ 0 le_rfl⟩

/-! ### Shadowed entries -/

/-- The instruction that core86's decoder reads from an encoding: where several instructions share a first byte, that
of the first row and of its first registers (R108). -/
def shadow86 : Instr → Instr
  | .x86MovR16R16 _ _ => .x86MovR16R16 .AX .AX
  | .x86MovR8R8 _ _ => .x86MovR8R8 .AL .AL
  | .x86AddR16R16 _ _ => .x86AddR16R16 .AX .AX
  | .x86AddR8R8 _ _ => .x86AddR8R8 .AL .AL
  | .x86SubR16R16 _ _ => .x86SubR16R16 .AX .AX
  | .x86SubR8R8 _ _ => .x86SubR8R8 .AL .AL
  | .x86CmpR16R16 _ _ => .x86CmpR16R16 .AX .AX
  | .x86CmpR8R8 _ _ => .x86CmpR8R8 .AL .AL
  | .x86AndR16R16 _ _ => .x86AndR16R16 .AX .AX
  | .x86AndR8R8 _ _ => .x86AndR8R8 .AL .AL
  | .x86OrR16R16 _ _ => .x86OrR16R16 .AX .AX
  | .x86OrR8R8 _ _ => .x86OrR8R8 .AL .AL
  | .x86XorR16R16 _ _ => .x86XorR16R16 .AX .AX
  | .x86XorR8R8 _ _ => .x86XorR8R8 .AL .AL
  | .x86AddR16Imm16 _ n => .x86AddR16Imm16 .AX n
  | .x86SubR16Imm16 _ n => .x86AddR16Imm16 .AX n
  | .x86CmpR16Imm16 _ n => .x86AddR16Imm16 .AX n
  | .x86AndR16Imm16 _ n => .x86AddR16Imm16 .AX n
  | .x86OrR16Imm16 _ n => .x86AddR16Imm16 .AX n
  | .x86XorR16Imm16 _ n => .x86AddR16Imm16 .AX n
  | .x86AddR8Imm8 _ n => .x86AddR8Imm8 .AL n
  | .x86SubR8Imm8 _ n => .x86AddR8Imm8 .AL n
  | .x86CmpR8Imm8 _ n => .x86AddR8Imm8 .AL n
  | .x86AndR8Imm8 _ n => .x86AddR8Imm8 .AL n
  | .x86OrR8Imm8 _ n => .x86AddR8Imm8 .AL n
  | .x86XorR8Imm8 _ n => .x86AddR8Imm8 .AL n
  | .x86IncR8 _ => .x86IncR8 .AL
  | .x86DecR8 _ => .x86IncR8 .AL
  | .x86Jz t => .x86Je t
  | .x86Jnz t => .x86Jne t
  | i => i

/-- Byte strings that core86's decoder does not tell apart: they are equal, or they differ in the second byte only and
the entry that the first one selects has two lead bytes, of which the decoder never looks at the second (R92). -/
inductive SameEntry86 : List Byte → List Byte → Prop
  | refl (bs : List Byte) : SameEntry86 bs bs
  | second {b : Byte} (x y : Byte) (fields : List Byte)
      (h : (selectEntry optab86 b).map (fun e => e.lead.length) = some 2) :
      SameEntry86 (b :: x :: fields) (b :: y :: fields)

namespace SameEntry86

variable {bs bs' : List Byte}

theorem head?_eq (h : SameEntry86 bs bs') : bs.head? = bs'.head? := by
  cases h <;> rfl

theorem length_eq (h : SameEntry86 bs bs') : bs.length = bs'.length := by
  cases h <;> rfl

theorem append (h : SameEntry86 bs bs') (rest : List Byte) : SameEntry86 (bs ++ rest) (bs' ++ rest) := by
  cases h with
  | refl => exact .refl _
  | second x y fields h => exact .second x y (fields ++ rest) h

theorem decodeStep_eq (h : SameEntry86 bs bs') : decodeStep optab86 bs = decodeStep optab86 bs' := by
  cases h with
  | refl => rfl
  | second x y fields h =>
    obtain ⟨e, hselect, hlead⟩ := Option.map_eq_some_iff.mp h
    simp [decodeStep, hselect, hlead]

end SameEntry86

/-- Each encodable instruction of core86 has the encoding of a reachable one, but for a modrm byte. -/
theorem encode_shadow86 {i : Instr} {bs : List Byte} (hi : i.arch = .core86) (h : encode i = some bs) :
    reachable86 (shadow86 i) = true ∧ ∃ bs', encode (shadow86 i) = some bs' ∧ SameEntry86 bs bs' := by
  cases i with
  | x86MovR16Imm16 | x86MovR8Imm8 | x86IncR16 | x86DecR16 | x86Jmp | x86Je | x86Jz | x86Jne | x86Jnz | x86Hlt =>
    exact ⟨rfl, bs, h, .refl bs⟩
  | x86MovR16R16 | x86MovR8R8 | x86AddR16R16 | x86AddR8R8 | x86SubR16R16 | x86SubR8R8 | x86CmpR16R16 | x86CmpR8R8
  | x86AndR16R16 | x86AndR8R8 | x86OrR16R16 | x86OrR8R8 | x86XorR16R16 | x86XorR8R8 | x86AddR16Imm16
  | x86SubR16Imm16 | x86CmpR16Imm16 | x86AndR16Imm16 | x86OrR16Imm16 | x86XorR16Imm16 | x86AddR8Imm8 | x86SubR8Imm8
  | x86CmpR8Imm8 | x86AndR8Imm8 | x86OrR8Imm8 | x86XorR8Imm8 | x86IncR8 | x86DecR8 =>
    obtain rfl := Option.some.inj h
    exact ⟨rfl, _, rfl, .second _ _ _ rfl⟩
  | x86MovForm | x86AddForm | x86SubForm | x86CmpForm | x86AndForm | x86OrForm | x86XorForm | x86JmpLit | x86JeLit
  | x86JzLit | x86JneLit | x86JnzLit | x86Div => cases h
  | _ => cases hi

theorem decode_shadow86 {i : Instr} {bs : List Byte} (hi : i.arch = .core86) (h : encode i = some bs)
    (rest : List Byte) : decode .core86 (bs ++ rest) = some (shadow86 i, bs.length) := by
  obtain ⟨hreach, bs', henc, hsame⟩ := encode_shadow86 hi h
  have hround := (roundTrips86 hreach henc).decode rest
  rw [hsame.length_eq, ← hround]
  unfold decode
  rw [show optab .core86 = optab86 from rfl, (hsame.append rest).decodeStep_eq]

theorem exists_decode_shadow86 {i j : Instr} {len : Nat} (rest : List Byte) (hi : i.arch = .core86)
    (hlen : (encode i).map List.length = some len) (hj : shadow86 i = j) :
    ∃ bs, encode i = some bs ∧ decode .core86 (bs ++ rest) = some (j, len) := by
  obtain ⟨bs, henc, rfl⟩ := Option.map_eq_some_iff.mp hlen
  exact ⟨bs, henc, hj ▸ decode_shadow86 hi henc rest⟩

/-- Settles O52: every clause is the decoding of the shadowing instruction. -/
theorem shadowedDecode86 : Obligations.ShadowedDecode86 := by
  refine ⟨fun i bs rest hi henc => ?_, fun t rest => ⟨decode_shadow86 (i := .x86Je t) rfl rfl rest, rfl,
    decode_shadow86 (i := .x86Jne t) rfl rfl rest, rfl, ?_, ?_, ?_, ?_, ?_⟩⟩
  · obtain ⟨hreach, bs', henc', hsame⟩ := encode_shadow86 hi henc
    exact ⟨shadow86 i, bs', decode_shadow86 hi henc rest, hreach, henc', hsame.head?_eq.symm, hsame.length_eq.symm⟩
  all_goals
    intro make hmake r
    fin_cases hmake
  all_goals
    intros
    exact exists_decode_shadow86 rest rfl rfl rfl

/-! ### Words -/

theorem decode_of_encode51 {i : Instr} {bs : List Byte} (hi : i.arch = .core51) (h : encode i = some bs) :
    decode .core51 bs = some (i, bs.length) := by
  simpa only [List.append_nil] using (roundTrips51 hi h).decode []

theorem decode_of_encode86 {i : Instr} {bs : List Byte} (hi : reachable86 i = true) (h : encode i = some bs) :
    decode .core86 bs = some (i, bs.length) := by
  simpa only [List.append_nil] using (roundTrips86 hi h).decode []

/-- Settles O50: each word is the encoding of its instruction, but for `81 E8`, which is that of `SUB AX, #imm16`. -/
theorem decodeWords : Obligations.DecodeWords :=
  ⟨decode_of_encode86 rfl rfl, decode_of_encode86 rfl rfl, decode_of_encode86 rfl rfl,
    decode_shadow86 (i := .x86SubR16Imm16 .AX 0x1234) rfl rfl [], decode_of_encode86 rfl rfl,
    decode_of_encode86 rfl rfl, decode_of_encode86 rfl rfl, decode_of_encode86 rfl rfl, decode_of_encode86 rfl rfl,
    decode_of_encode86 rfl rfl, decode_of_encode86 rfl rfl, decode_of_encode51 rfl rfl, decode_of_encode51 rfl rfl,
    decode_of_encode51 rfl rfl, decode_of_encode51 rfl rfl, decode_of_encode51 rfl rfl, decode_of_encode51 rfl rfl,
    decode_of_encode51 rfl rfl, decode_of_encode51 rfl rfl, decode_of_encode51 rfl rfl, decode_of_encode51 rfl rfl⟩

end Sys2Proof.Machine
end

section
/-! PROOFS. The assembler on the records of instructions (O56): it refuses no operand the execution engine reads, and
whatever entry it finds stands for the instruction the record is. -/

namespace Sys2Proof.Machine

/-! ### No token of an instruction's record is refused -/

theorem mem_of_lookup {β : Type} {l : List (Token × β)} {t : Token} {c : β} (h : l.lookup t = some c) : (t, c) ∈ l := by
  obtain ⟨pre, post, rfl, -⟩ := List.lookup_eq_some_iff.mp h
  simp

/-- Names are written in upper case (R83). -/
theorem names86_upperCase : ∀ x ∈ names86, hasLowerCase x.1 = false := by decide

theorem names51_upperCase : ∀ x ∈ names51, hasLowerCase x.1 = false := by decide

theorem hasLowerCase_of_lit {a : Arch} {t : Token} {v : LitValue} (h : lit a t = .ok v) : hasLowerCase t = false := by
  cases hlow : hasLowerCase t with
  | false => rfl
  | true => simp [lit, hlow] at h

/-- The assembler refuses no operand that core86 reads. -/
theorem refusedToken_of_cls86 {t : Token} {c : Opd86} (h : cls86 t = .ok c) : refusedToken .core86 t = none := by
  rw [refusedToken_none]
  unfold cls86 at h
  split at h
  · next hlookup => exact ⟨names86_upperCase _ (mem_of_lookup hlookup), .inl (by simp [isName, hlookup])⟩
  · split at h
    · cases h
    · split at h
      · next hlit => exact ⟨hasLowerCase_of_lit hlit, .inr ⟨_, hlit⟩⟩
      · cases h

/-- The assembler refuses no operand that core51 reads. -/
theorem refusedToken_of_cls51 {t : Token} {c : Cls51} (h : cls51 t = .ok c) : refusedToken .core51 t = none := by
  rw [refusedToken_none]
  unfold cls51 at h
  split at h
  · next hlookup => exact ⟨names51_upperCase _ (mem_of_lookup hlookup), .inl (by simp [isName, hlookup])⟩
  · split at h
    · cases h
    · split at h
      · next hlit => exact ⟨hasLowerCase_of_lit hlit, .inr ⟨_, hlit⟩⟩
      · cases h

/-- Operands that are all read are each read. -/
theorem exists_cls_of_clsAll {α : Type} {cls : Token → Except Refusal α} {ts : List Token} {cs : List α}
    (h : clsAll cls ts = .ok cs) : ∀ t ∈ ts, ∃ c, cls t = .ok c := by
  induction ts generalizing cs with
  | nil => exact nofun
  | cons t ts ih =>
    unfold clsAll at h
    split at h
    · cases h
    · next c hc =>
      split at h
      · cases h
      · next hts => exact List.forall_mem_cons.mpr ⟨⟨c, hc⟩, ih hts⟩

/-- A record that is an instruction has no refused operand, unless it is DIV of core86, whose operands are never looked
at (R246). -/
theorem firstRefused_of_resolve {a : Arch} {r : Record} {i : Instr} (h : resolve a r = .ok i) (hi : i ≠ .x86Div) :
    firstRefused a r.operands = none := by
  rw [firstRefused_none]
  intro t ht
  cases a with
  | core86 =>
    obtain ⟨m, ops, hops, -⟩ := (resolve86_eq_ok h).resolve_left hi
    obtain ⟨c, hc⟩ := exists_cls_of_clsAll hops t ht
    exact refusedToken_of_cls86 hc
  | core51 =>
    obtain ⟨m, ops, hops, -⟩ := resolve51_eq_ok h
    obtain ⟨c, hc⟩ := exists_cls_of_clsAll hops t ht
    exact refusedToken_of_cls51 hc

/-- DIV of core86 is written without operands. -/
theorem firstRefused_instrRecord {i : Instr} (h : wellFormed i = true) :
    firstRefused i.arch (instrRecord i).operands = none := by
  by_cases hi : i = .x86Div
  · subst hi
    rfl
  · exact firstRefused_of_resolve (resolve_instrRecord h) hi

/-! ### The forward lookup -/

/-- The entry found is in the table and matches. -/
theorem forwardLookup_eq_some {a : Arch} {r : Record} {es : List Entry} {e : Entry} {vs : List Nat}
    (h : forwardLookup a r es = some (e, vs)) :
    e ∈ es ∧ e.mnemonic = r.mnemonic ∧ matchTemplate a e.template r.operands = some vs := by
  induction es with
  | nil => cases h
  | cons x es ih =>
    have later (hx : forwardLookup a r es = some (e, vs)) :
        e ∈ x :: es ∧ e.mnemonic = r.mnemonic ∧ matchTemplate a e.template r.operands = some vs :=
      (ih hx).imp_left (List.mem_cons_of_mem x)
    unfold forwardLookup at h
    split at h
    · next hm =>
      split at h
      · next hmatch =>
        cases h
        exact ⟨List.mem_cons_self, hm, hmatch⟩
      · exact later h
    · exact later h

/-- An entry is found if one matches. -/
theorem forwardLookup_ne_none {a : Arch} {r : Record} {es : List Entry} {e : Entry} {vs : List Nat} (he : e ∈ es)
    (hm : e.mnemonic = r.mnemonic) (hmatch : matchTemplate a e.template r.operands = some vs) :
    forwardLookup a r es ≠ none := by
  induction es with
  | nil => cases he
  | cons x es ih =>
    unfold forwardLookup
    obtain rfl | he := List.mem_cons.mp he
    · simp [hm, hmatch]
    · split
      · split
        · simp
        · exact ih he
      · exact ih he

/-! ### The entry of each instruction of core86 -/

theorem mem_allR16 (r : R16) : r ∈ allR16 := by cases r <;> decide

theorem mem_allR8 (r : R8) : r ∈ allR8 := by cases r <;> decide

section
variable {m : Token} {len : Nat} {op : Byte}

theorem mem_rowR16Imm16 {lead : R16 → List Byte} (r : R16) :
    { mnemonic := m, lead := lead r, len := len, template := [.fixed (nameR16 r), .field true .imm16] } ∈
      rowR16Imm16 m lead len := List.mem_map.mpr ⟨r, mem_allR16 r, rfl⟩

theorem mem_rowR8Imm8 {lead : R8 → List Byte} (r : R8) :
    { mnemonic := m, lead := lead r, len := len, template := [.fixed (nameR8 r), .field true .imm8] } ∈
      rowR8Imm8 m lead len := List.mem_map.mpr ⟨r, mem_allR8 r, rfl⟩

theorem mem_rowR16R16 (d s : R16) :
    { mnemonic := m, lead := [op, modrm (numR16 d) (numR16 s)], len := 2
      template := [.fixed (nameR16 d), .fixed (nameR16 s)] } ∈ rowR16R16 m op :=
  List.mem_flatMap.mpr ⟨d, mem_allR16 d, List.mem_map.mpr ⟨s, mem_allR16 s, rfl⟩⟩

theorem mem_rowR8R8 (d s : R8) :
    { mnemonic := m, lead := [op, modrm (numR8 d) (numR8 s)], len := 2
      template := [.fixed (nameR8 d), .fixed (nameR8 s)] } ∈ rowR8R8 m op :=
  List.mem_flatMap.mpr ⟨d, mem_allR8 d, List.mem_map.mpr ⟨s, mem_allR8 s, rfl⟩⟩

theorem mem_rowR16 {lead : R16 → List Byte} (r : R16) :
    { mnemonic := m, lead := lead r, len := len, template := [.fixed (nameR16 r)] } ∈ rowR16 m lead len :=
  List.mem_map.mpr ⟨r, mem_allR16 r, rfl⟩

theorem mem_rowR8 {lead : R8 → List Byte} (r : R8) :
    { mnemonic := m, lead := lead r, len := len, template := [.fixed (nameR8 r)] } ∈ rowR8 m lead len :=
  List.mem_map.mpr ⟨r, mem_allR8 r, rfl⟩

theorem mem_rowOne {lead : List Byte} {template : List Pattern} :
    { mnemonic := m, lead := lead, len := len, template := template } ∈ rowOne m lead len template :=
  List.mem_singleton.mpr rfl

end

/-- An entry of row X`k + 1`. -/
theorem mem_optab86 {e : Entry} {row : List Entry} (k : Nat) (hrow : optab86[k]? = some row) (he : e ∈ row) :
    e ∈ tableEntries optab86 := List.mem_flatten.mpr ⟨row, List.mem_of_getElem? hrow, he⟩

/-- Every encodable instruction of core86 is spelled by an entry of its row (R106). -/
theorem exists_entry86 {i : Instr} {bs : List Byte} (hi : i.arch = .core86) (h : encode i = some bs) :
    ∃ e vs, e ∈ tableEntries optab86 ∧ Spells e vs i := by
  cases i with
  | x86MovR16Imm16 r n => exact ⟨_, [n.toNat], mem_optab86 0 rfl (mem_rowR16Imm16 r), rfl, n.isLt, rfl⟩
  | x86MovR8Imm8 r n => exact ⟨_, [n.toNat], mem_optab86 1 rfl (mem_rowR8Imm8 r), rfl, n.isLt, rfl⟩
  | x86MovR16R16 d s => exact ⟨_, [], mem_optab86 2 rfl (mem_rowR16R16 d s), rfl, rfl⟩
  | x86MovR8R8 d s => exact ⟨_, [], mem_optab86 3 rfl (mem_rowR8R8 d s), rfl, rfl⟩
  | x86AddR16Imm16 r n => exact ⟨_, [n.toNat], mem_optab86 4 rfl (mem_rowR16Imm16 r), rfl, n.isLt, rfl⟩
  | x86AddR8Imm8 r n => exact ⟨_, [n.toNat], mem_optab86 5 rfl (mem_rowR8Imm8 r), rfl, n.isLt, rfl⟩
  | x86AddR16R16 d s => exact ⟨_, [], mem_optab86 6 rfl (mem_rowR16R16 d s), rfl, rfl⟩
  | x86AddR8R8 d s => exact ⟨_, [], mem_optab86 7 rfl (mem_rowR8R8 d s), rfl, rfl⟩
  | x86SubR16Imm16 r n => exact ⟨_, [n.toNat], mem_optab86 8 rfl (mem_rowR16Imm16 r), rfl, n.isLt, rfl⟩
  | x86SubR8Imm8 r n => exact ⟨_, [n.toNat], mem_optab86 9 rfl (mem_rowR8Imm8 r), rfl, n.isLt, rfl⟩
  | x86SubR16R16 d s => exact ⟨_, [], mem_optab86 10 rfl (mem_rowR16R16 d s), rfl, rfl⟩
  | x86SubR8R8 d s => exact ⟨_, [], mem_optab86 11 rfl (mem_rowR8R8 d s), rfl, rfl⟩
  | x86CmpR16Imm16 r n => exact ⟨_, [n.toNat], mem_optab86 12 rfl (mem_rowR16Imm16 r), rfl, n.isLt, rfl⟩
  | x86CmpR8Imm8 r n => exact ⟨_, [n.toNat], mem_optab86 13 rfl (mem_rowR8Imm8 r), rfl, n.isLt, rfl⟩
  | x86CmpR16R16 d s => exact ⟨_, [], mem_optab86 14 rfl (mem_rowR16R16 d s), rfl, rfl⟩
  | x86CmpR8R8 d s => exact ⟨_, [], mem_optab86 15 rfl (mem_rowR8R8 d s), rfl, rfl⟩
  | x86IncR16 r => exact ⟨_, [], mem_optab86 16 rfl (mem_rowR16 r), rfl, rfl⟩
  | x86IncR8 r => exact ⟨_, [], mem_optab86 17 rfl (mem_rowR8 r), rfl, rfl⟩
  | x86DecR16 r => exact ⟨_, [], mem_optab86 18 rfl (mem_rowR16 r), rfl, rfl⟩
  | x86DecR8 r => exact ⟨_, [], mem_optab86 19 rfl (mem_rowR8 r), rfl, rfl⟩
  | x86AndR16Imm16 r n => exact ⟨_, [n.toNat], mem_optab86 20 rfl (mem_rowR16Imm16 r), rfl, n.isLt, rfl⟩
  | x86AndR8Imm8 r n => exact ⟨_, [n.toNat], mem_optab86 21 rfl (mem_rowR8Imm8 r), rfl, n.isLt, rfl⟩
  | x86AndR16R16 d s => exact ⟨_, [], mem_optab86 22 rfl (mem_rowR16R16 d s), rfl, rfl⟩
  | x86AndR8R8 d s => exact ⟨_, [], mem_optab86 23 rfl (mem_rowR8R8 d s), rfl, rfl⟩
  | x86OrR16Imm16 r n => exact ⟨_, [n.toNat], mem_optab86 24 rfl (mem_rowR16Imm16 r), rfl, n.isLt, rfl⟩
  | x86OrR8Imm8 r n => exact ⟨_, [n.toNat], mem_optab86 25 rfl (mem_rowR8Imm8 r), rfl, n.isLt, rfl⟩
  | x86OrR16R16 d s => exact ⟨_, [], mem_optab86 26 rfl (mem_rowR16R16 d s), rfl, rfl⟩
  | x86OrR8R8 d s => exact ⟨_, [], mem_optab86 27 rfl (mem_rowR8R8 d s), rfl, rfl⟩
  | x86XorR16Imm16 r n => exact ⟨_, [n.toNat], mem_optab86 28 rfl (mem_rowR16Imm16 r), rfl, n.isLt, rfl⟩
  | x86XorR8Imm8 r n => exact ⟨_, [n.toNat], mem_optab86 29 rfl (mem_rowR8Imm8 r), rfl, n.isLt, rfl⟩
  | x86XorR16R16 d s => exact ⟨_, [], mem_optab86 30 rfl (mem_rowR16R16 d s), rfl, rfl⟩
  | x86XorR8R8 d s => exact ⟨_, [], mem_optab86 31 rfl (mem_rowR8R8 d s), rfl, rfl⟩
  | x86Jmp t => exact ⟨_, [t.toNat], mem_optab86 32 rfl mem_rowOne, rfl, t.isLt, rfl⟩
  | x86Je t => exact ⟨_, [t.toNat], mem_optab86 33 rfl mem_rowOne, rfl, t.isLt, rfl⟩
  | x86Jz t => exact ⟨_, [t.toNat], mem_optab86 34 rfl mem_rowOne, rfl, t.isLt, rfl⟩
  | x86Jne t => exact ⟨_, [t.toNat], mem_optab86 35 rfl mem_rowOne, rfl, t.isLt, rfl⟩
  | x86Jnz t => exact ⟨_, [t.toNat], mem_optab86 36 rfl mem_rowOne, rfl, t.isLt, rfl⟩
  | x86Hlt => exact ⟨_, [], mem_optab86 37 rfl mem_rowOne, rfl, rfl⟩
  | x86MovForm | x86AddForm | x86SubForm | x86CmpForm | x86AndForm | x86OrForm | x86XorForm | x86JmpLit | x86JeLit
  | x86JzLit | x86JneLit | x86JnzLit | x86Div => cases h
  | _ => cases hi

/-- Every encodable instruction is spelled by an entry of its core's reference table. -/
theorem exists_entry {i : Instr} {bs : List Byte} (h : encode i = some bs) :
    ∃ e vs, e ∈ tableEntries (optab i.arch) ∧ Spells e vs i := by
  cases hi : i.arch with
  | core86 => exact exists_entry86 hi h
  | core51 =>
    obtain ⟨e, vs, hselected, hs⟩ := exists_selected51 hi h
    obtain ⟨b, -, hselect⟩ := Option.bind_eq_some_iff.mp hselected
    exact ⟨e, vs, hi ▸ mem_of_selectEntry hselect, hs⟩

/-! ### Assembling an instruction's record -/

/-- The entry found for an instruction's record emits the instruction's encoding, if it has one. -/
theorem emitFields_of_forwardLookup {i : Instr} (hwf : wellFormed i = true) {e : Entry} {vs : List Nat}
    (h : forwardLookup i.arch (instrRecord i) (tableEntries (optab i.arch)) = some (e, vs)) :
    (emitFields e.bigEndian e.template vs).map (fun bytes => e.lead ++ bytes) = encode i := by
  obtain ⟨he, hm, hmatch⟩ := forwardLookup_eq_some h
  obtain ⟨j, hj, henc⟩ := entrySound_of_mem he _ _ hmatch
  have hij : resolve i.arch (instrRecord i) = .ok j := by
    rw [← hj, hm, ← resolve_sourceLine i.arch (instrRecord i) none]
  rw [resolve_instrRecord hwf] at hij
  rw [← henc, Except.ok.inj hij]

section
variable {a : Arch} {table : Table} {r : Record} {e : Entry} {vs : List Nat} (hr : firstRefused a r.operands = none)
include hr

theorem assembleRecord_not_found (h : forwardLookup a r (tableEntries table) = none) :
    assembleRecord a table r = .ok (.error .unknownInstruction) := by
  simp [assembleRecord, hr, h]

theorem assembleRecord_found (h : forwardLookup a r (tableEntries table) = some (e, vs)) {bytes : List Byte}
    (hemit : emitFields e.bigEndian e.template vs = some bytes) :
    assembleRecord a table r = .ok (.ok (e.lead ++ bytes)) := by
  simp [assembleRecord, hr, h, hemit]

theorem assembleRecord_out_of_range (h : forwardLookup a r (tableEntries table) = some (e, vs))
    (hemit : emitFields e.bigEndian e.template vs = none) :
    assembleRecord a table r = .ok (.error .immediateOutOfRange) := by
  simp [assembleRecord, hr, h, hemit]

end

theorem assembleRecord_of_encode {i : Instr} {bs : List Byte} (henc : encode i = some bs) :
    assembleRecord i.arch (optab i.arch) (instrRecord i) = .ok (.ok bs) := by
  have hwf := wellFormed_of_encode henc
  obtain ⟨e, vs, he, hs⟩ := exists_entry henc
  have hfound : forwardLookup i.arch (instrRecord i) (tableEntries (optab i.arch)) ≠ none := by
    rw [hs.record]
    exact forwardLookup_ne_none he rfl (matchTemplate_operandTokens _ hs.fits)
  obtain ⟨⟨e', vs'⟩, hlookup⟩ := Option.ne_none_iff_exists'.mp hfound
  obtain ⟨bytes, hemit, rfl⟩ := Option.map_eq_some_iff.mp ((emitFields_of_forwardLookup hwf hlookup).trans henc)
  exact assembleRecord_found (firstRefused_instrRecord hwf) hlookup hemit

theorem assembleRecord_of_not_encode {i : Instr} (hwf : wellFormed i = true) (henc : encode i = none) :
    ∃ reason, assembleRecord i.arch (optab i.arch) (instrRecord i) = .ok (.error reason) := by
  have hr := firstRefused_instrRecord hwf
  cases hlookup : forwardLookup i.arch (instrRecord i) (tableEntries (optab i.arch)) with
  | none => exact ⟨_, assembleRecord_not_found hr hlookup⟩
  | some found =>
    have hemit := Option.map_eq_none_iff.mp ((emitFields_of_forwardLookup hwf hlookup).trans henc)
    exact ⟨_, assembleRecord_out_of_range hr hlookup hemit⟩

/-- Settles O56. -/
theorem assemblerEncodes : Obligations.AssemblerEncodes :=
  ⟨fun _ _ => assembleRecord_of_encode, fun _ => assembleRecord_of_not_encode⟩

end Sys2Proof.Machine
end

section
/-! PROOFS. The bytes that begin an entry of a reference table (O49): row by row, then by cases of the byte. -/

namespace Sys2Proof.Machine

/-- An entry of the row begins with the byte. -/
def rowBegins (b : Byte) (row : List Entry) : Bool := row.any fun e => e.lead.head? == some b

theorem selectEntry_isSome (table : Table) (b : Byte) : (selectEntry table b).isSome = table.any (rowBegins b) := by
  rw [Bool.eq_iff_iff]
  simp [selectEntry, rowBegins, List.any_eq_true]

section
variable (b : Byte) (m : Token)

theorem rowR16R16_begins (op : Byte) : rowBegins b (rowR16R16 m op) = (op == b) := by
  simp [rowBegins, rowR16R16, allR16]

theorem rowR8R8_begins (op : Byte) : rowBegins b (rowR8R8 m op) = (op == b) := by
  simp [rowBegins, rowR8R8, allR8]

theorem rowR16Imm16_begins (lead : R16 → List Byte) (len : Nat) :
    rowBegins b (rowR16Imm16 m lead len) = allR16.any fun r => (lead r).head? == some b := List.any_map

theorem rowR8Imm8_begins (lead : R8 → List Byte) (len : Nat) :
    rowBegins b (rowR8Imm8 m lead len) = allR8.any fun r => (lead r).head? == some b := List.any_map

theorem rowR16_begins (lead : R16 → List Byte) (len : Nat) :
    rowBegins b (rowR16 m lead len) = allR16.any fun r => (lead r).head? == some b := List.any_map

theorem rowR8_begins (lead : R8 → List Byte) (len : Nat) :
    rowBegins b (rowR8 m lead len) = allR8.any fun r => (lead r).head? == some b := List.any_map

theorem rowRN_begins (lead : RN → List Byte) (len : Nat) (template : RN → List Pattern) :
    rowBegins b (rowRN m lead len template) = allRN.any fun r => (lead r).head? == some b := List.any_map

theorem rowRI_begins (lead : RI → List Byte) (template : RI → List Pattern) :
    rowBegins b (rowRI m lead template) = allRI.any fun i => (lead i).head? == some b := List.any_map

theorem rowOne_begins (lead : List Byte) (len : Nat) (template : List Pattern) :
    rowBegins b (rowOne m lead len template) = (lead.head? == some b) := Bool.or_false _

theorem entry_begins (e : Entry) : rowBegins b [e] = (e.lead.head? == some b) := Bool.or_false _

end

/-! The rows of a register whose number is not in the first byte begin with one byte. -/

theorem allR16_any_const (x : Bool) : (allR16.any fun _ => x) = x := by cases x <;> rfl

theorem allR8_any_const (x : Bool) : (allR8.any fun _ => x) = x := by cases x <;> rfl

/-! The rows of a register whose number is added to the first byte begin with eight bytes. -/

theorem any_add_number {α : Type} {l : List α} {num : α → Byte} (hnum : l.map num = [0, 1, 2, 3, 4, 5, 6, 7])
    (base b : Byte) : (l.any fun r => base + num r == b) = decide (b - base < 8#8) := by
  have below : ∀ c : Byte, ([0, 1, 2, 3, 4, 5, 6, 7] : List Byte).any (fun x => x == c) = decide (c < 8#8) := by decide
  have shift : ∀ x : Byte, (base + x == b) = (x == b - base) := fun x => by
    rw [Bool.eq_iff_iff, beq_iff_eq, beq_iff_eq, eq_sub_iff_add_eq, add_comm]
  simp only [shift, ← below, ← hnum, List.any_map, Function.comp_def]

theorem allR16_any_add (base b : Byte) : (allR16.any fun r => base + numR16 r == b) = decide (b - base < 8#8) :=
  any_add_number rfl base b

theorem allR8_any_add (base b : Byte) : (allR8.any fun r => base + numR8 r == b) = decide (b - base < 8#8) :=
  any_add_number rfl base b

theorem allRN_any_add (base b : Byte) : (allRN.any fun r => base + numRN r == b) = decide (b - base < 8#8) :=
  any_add_number rfl base b

theorem selectEntry_optab86_isSome (b : Byte) : (selectEntry optab86 b).isSome =
    (([0x02, 0x03, 0x0A, 0x0B, 0x22, 0x23, 0x2A, 0x2B, 0x32, 0x33, 0x3A, 0x3B, 0x74, 0x75, 0x80, 0x81,
      0x8A, 0x8B, 0xE9, 0xF4, 0xFE] : List Byte).contains b ||
      decide (0x40#8 ≤ b ∧ b ≤ 0x4F#8) || decide (0xB0#8 ≤ b ∧ b ≤ 0xBF#8)) := by
  simp only [selectEntry_isSome, optab86, List.any_cons, List.any_nil, rowR16R16_begins, rowR8R8_begins,
    rowR16Imm16_begins, rowR8Imm8_begins, rowR16_begins, rowR8_begins, rowOne_begins, List.head?_cons,
    Option.some_beq_some, allR16_any_const, allR8_any_const, allR16_any_add, allR8_any_add]
  revert b
  decide

theorem selectEntry_optab51_isSome (b : Byte) : (selectEntry optab51 b).isSome =
    (([0x04, 0x05, 0x13, 0x14, 0x15, 0x33, 0x40, 0x50, 0x60, 0x70, 0x74, 0x75, 0x80, 0x84, 0x90, 0xA3,
      0xA4, 0xA5, 0xB3, 0xC3, 0xD3, 0xE0, 0xE2, 0xE3, 0xE5, 0xF0, 0xF2, 0xF3, 0xF5] : List Byte).contains b ||
      decide (0x08#8 ≤ b ∧ b ≤ 0x0F#8) || decide (0x18#8 ≤ b ∧ b ≤ 0x1F#8) ||
      decide (0x78#8 ≤ b ∧ b ≤ 0x7F#8) || decide (0x88#8 ≤ b ∧ b ≤ 0x8F#8) ||
      decide (0xA8#8 ≤ b ∧ b ≤ 0xAF#8) || decide (0xE8#8 ≤ b ∧ b ≤ 0xEF#8) || decide (0xF8#8 ≤ b)) := by
  simp only [selectEntry_isSome, optab51, List.any_cons, List.any_nil, rowRN_begins, rowRI_begins, rowOne_begins,
    entry_begins, List.head?_cons, Option.some_beq_some, allRN_any_add]
  revert b
  decide

/-- Settles O49. -/
theorem unknownBytes : Obligations.UnknownBytes := ⟨selectEntry_optab86_isSome, selectEntry_optab51_isSome⟩

end Sys2Proof.Machine
end

section
/-! PROOFS. The literal grammar (O60): which tokens case 4 of R84 takes, what it makes of them (R85, R244), and what
the other cases refuse. -/

namespace Sys2Proof.Machine

open Sys2Proof.Safety

/-! ### Digits -/

theorem digitVal_hexDigit {d : Nat} (h : d < 16) : digitVal (hexDigit d) = some d := by
  have all : ∀ x : Fin 16, digitVal (hexDigit x.val) = some x.val := by decide
  exact all ⟨d, h⟩

theorem eq_hexDigit_of_digitVal {c : Char} {d : Nat} (h : digitVal c = some d) : c = hexDigit d := by
  unfold digitVal at h
  split at h
  · next hc =>
    obtain rfl := Option.some.inj h
    rw [hexDigit, if_pos (by omega), Nat.add_sub_cancel' hc.1, Char.ofNat_toNat]
  · split at h
    · next hc =>
      obtain rfl := Option.some.inj h
      rw [hexDigit, if_neg (by omega), Nat.add_sub_cancel' (by omega), Char.ofNat_toNat]
    · cases h

/-- The digits of a radix in the model's own spelling. -/
theorem validDigits_eq_map {radix : Nat} (h : radix ≤ 16) : validDigits radix = (List.range radix).map hexDigit := by
  have all : ∀ k : Fin 17, validDigits k.val = (List.range k.val).map hexDigit := by decide
  exact all ⟨radix, Nat.lt_succ_of_le h⟩

theorem radixDigit_eq_none_iff {radix : Nat} (h : radix ≤ 16) (c : Char) :
    radixDigit radix c = none ↔ c ∉ validDigits radix := by
  have hmem : c ∈ validDigits radix ↔ ∃ d < radix, hexDigit d = c := by
    rw [validDigits_eq_map h]
    simp
  rw [hmem]
  unfold radixDigit
  constructor
  · rintro hnone ⟨d, hd, rfl⟩
    simp [digitVal_hexDigit (hd.trans_le h), hd] at hnone
  · intro hno
    cases hval : digitVal c with
    | none => rfl
    | some d =>
      have hd : ¬d < radix := fun hd => hno ⟨d, hd, (eq_hexDigit_of_digitVal hval).symm⟩
      simp [hd]

theorem digitsFrom_eq_none {radix acc : Nat} {body : List Char} (h : ∃ c ∈ body, radixDigit radix c = none) :
    digitsFrom radix acc body = none := by
  induction body generalizing acc with
  | nil => simp at h
  | cons c rest ih =>
    unfold digitsFrom
    cases hc : radixDigit radix c with
    | none => rfl
    | some d =>
      obtain ⟨x, hx, hxd⟩ := h
      obtain rfl | hx := List.mem_cons.mp hx
      · simp [hxd] at hc
      · exact ih ⟨x, hx, hxd⟩

theorem defaultRadix_le (a : Arch) : defaultRadix a ≤ 16 := by cases a <;> decide

/-- A body in the default radix without a valid leading digit is the fallback (R85, R244). -/
theorem defaultBody_zero {a : Arch} (t : Token) {body : Token} (h : NoLeadingDigit a body) :
    defaultBody t (defaultRadix a) body = .ok .zero := by
  cases body with
  | nil => rfl
  | cons c rest =>
    have hc := (radixDigit_eq_none_iff (defaultRadix_le a) c).mpr (h c rfl)
    simp [defaultBody, digitsFrom_eq_none ⟨c, List.mem_cons_self, hc⟩, hc]

/-- A body that is only partly valid is refused (R85). -/
theorem defaultBody_refused {a : Arch} (t : Token) {c : Char} {rest : List Char}
    (hc : c ∈ validDigits (defaultRadix a)) (h : ∃ d ∈ c :: rest, d ∉ validDigits (defaultRadix a)) :
    defaultBody t (defaultRadix a) (c :: rest) = .error (.refusedNumeral t) := by
  obtain ⟨d, hd, hinvalid⟩ := h
  have hnone := (radixDigit_eq_none_iff (defaultRadix_le a) d).mpr hinvalid
  have hsome : radixDigit (defaultRadix a) c ≠ none :=
    fun hn => (radixDigit_eq_none_iff (defaultRadix_le a) c).mp hn hc
  simp [defaultBody, digitsFrom_eq_none ⟨d, hd, hnone⟩, hsome]

/-- What the mark of a radix leaves is refused if it is empty or holds an invalid digit (R85). -/
theorem strictBody_refused (t : Token) {radix : Nat} (hradix : radix ≤ 16) {body : List Char}
    (h : body = [] ∨ ∃ c ∈ body, c ∉ validDigits radix) : strictBody t radix body = .error (.refusedNumeral t) := by
  obtain rfl | ⟨c, hc, hinvalid⟩ := h
  · rfl
  · have hnone := (radixDigit_eq_none_iff hradix c).mpr hinvalid
    simp [strictBody, List.ne_nil_of_mem hc, digitsFrom_eq_none ⟨c, hc, hnone⟩]

/-! ### The cases of the grammar -/

theorem stripMarker_of_head_ne {t : Token} (h : t.head? ≠ some '#') : stripMarker t = t := by
  unfold stripMarker
  split
  · simp at h
  · rfl

theorem stripMarker_append {body : Token} {c : Char} (hbody : body.head? ≠ some '#') (hc : c ≠ '#') :
    stripMarker (body ++ [c]) = body ++ [c] := by
  refine stripMarker_of_head_ne ?_
  cases body with
  | nil => simpa using hc
  | cons x rest => exact hbody

/-- The four cases of R84, without the checks before them. -/
def litBody (a : Arch) (t body : Token) : Except Refusal LitValue :=
  if hasHexMark body then strictBody t 16 (body.drop 2)
  else if body.getLast? == some 'H' then strictBody t 16 body.dropLast
  else if body.getLast? == some 'B' then strictBody t 2 body.dropLast
  else defaultBody t (defaultRadix a) body

/-- The checks pass: no lower-case letter, no marker before a name, no sign. -/
structure Checked (a : Arch) (t : Token) : Prop where
  upperCase : hasLowerCase t = false
  noMarkedName : (hasMarker t && isName a (stripMarker t)) = false
  unsigned : ((stripMarker t).head? == some '-' || (stripMarker t).head? == some '+') = false

theorem lit_of_checked {a : Arch} {t : Token} (h : Checked a t) : lit a t = litBody a t (stripMarker t) := by
  simp [lit, litBody, h.upperCase, h.noMarkedName, h.unsigned]

theorem lit_error_of_not_checked {a : Arch} {t : Token} (h : ¬Checked a t) : ∃ e, lit a t = .error e := by
  cases hlow : hasLowerCase t with
  | true => exact ⟨.lowerCaseToken t, by simp [lit, hlow]⟩
  | false =>
    cases hname : hasMarker t && isName a (stripMarker t) with
    | true => exact ⟨_, by simp only [lit, hlow, hname]; rfl⟩
    | false =>
      cases hsign : (stripMarker t).head? == some '-' || (stripMarker t).head? == some '+' with
      | true => exact ⟨_, by simp only [lit, hlow, hname, hsign]; rfl⟩
      | false => exact absurd ⟨hlow, hname, hsign⟩ h

/-- What the four cases refuse is refused. -/
theorem lit_error_of_litBody {a : Arch} {t : Token} (h : ∃ e, litBody a t (stripMarker t) = .error e) :
    ∃ e, lit a t = .error e := by
  by_cases hc : Checked a t
  · rwa [lit_of_checked hc]
  · exact lit_error_of_not_checked hc

theorem isLowerLetter_eq_isLower (c : Char) : isLowerLetter c = c.isLower := by
  simp only [isLowerLetter, Char.isLower, Bool.decide_and]
  rfl

/-- No character of a token without lower-case letters is read as one, whatever the token's marks. -/
theorem hasLowerCase_eq_false {t body : Token} (hstrip : stripMarker t = body) (h : ∀ c ∈ body, c.isLower = false) :
    hasLowerCase t = false := by
  have hmem : ∀ c ∈ stripHexMark t, c ∈ body := by
    unfold stripHexMark
    rw [hstrip]
    split
    · exact fun c hc => List.mem_of_mem_drop hc
    · exact fun c hc => hc
  rw [hasLowerCase, List.any_eq_false]
  intro c hc
  rw [isLowerLetter_eq_isLower, h c (hmem c hc)]
  exact Bool.false_ne_true

/-- A plain body has no hexadecimal mark: its `x` would be a lower-case letter. -/
theorem hasHexMark_plain {body : Token} (h : PlainBody body) : hasHexMark body = false := by
  obtain ⟨hlow, -, hmark, -⟩ := h
  have hx : body.take 2 ≠ ['0', 'x'] := fun he => by
    have hmem : 'x' ∈ body := List.mem_of_mem_take (he ▸ by simp : 'x' ∈ body.take 2)
    exact absurd (hlow 'x' hmem) (by decide)
  simp [hasHexMark, hx, hmark]

theorem litBody_plain (a : Arch) (t : Token) {body : Token} (h : PlainBody body) :
    litBody a t body = defaultBody t (defaultRadix a) body := by
  have hmark := hasHexMark_plain h
  obtain ⟨-, -, -, hH, hB⟩ := h
  simp [litBody, hmark, hH, hB]

/-- Case 4 takes a plain body, with or without the marker, if the marker does not stand before a name. -/
theorem lit_plain {a : Arch} {t body : Token} (hstrip : stripMarker t = body) (hbody : PlainBody body)
    (hname : hasMarker t = true → isName a body = false) : lit a t = defaultBody t (defaultRadix a) body := by
  have hcase := litBody_plain a t hbody
  obtain ⟨hlow, hhead, -⟩ := hbody
  simp only [List.mem_cons, List.not_mem_nil, or_false, not_or] at hhead
  obtain ⟨-, hminus, hplus⟩ := hhead
  have hchecked : Checked a t :=
    { upperCase := hasLowerCase_eq_false hstrip hlow
      noMarkedName := by
        rw [hstrip]
        cases hmark : hasMarker t with
        | false => rfl
        | true => exact hname hmark
      unsigned := by rw [hstrip]; simp [hminus, hplus] }
  rw [lit_of_checked hchecked, hstrip, hcase]

theorem head_ne_of_plain {t : Token} (h : PlainBody t) : t.head? ≠ some '#' := by
  obtain ⟨-, hhead, -⟩ := h
  simp only [List.mem_cons, not_or] at hhead
  exact hhead.1

theorem hasMarker_plain {t : Token} (h : PlainBody t) : hasMarker t = false := by
  simp [hasMarker, head_ne_of_plain h]

/-- A plain token itself, which has no marker. -/
theorem lit_plain_bare {a : Arch} {t : Token} (h : PlainBody t) : lit a t = defaultBody t (defaultRadix a) t :=
  lit_plain (stripMarker_of_head_ne (head_ne_of_plain h)) h fun hmark => by
    rw [hasMarker_plain h] at hmark
    cases hmark

/-! ### Names -/

theorem lookup_isSome_iff {β : Type} {l : List (Token × β)} {t : Token} :
    (l.lookup t).isSome = true ↔ t ∈ l.map Prod.fst := by
  rw [List.lookup_isSome_iff, List.mem_map]
  exact exists_congr fun x => and_congr_right fun _ => by rw [beq_iff_eq, eq_comm]

theorem names86_perm : (names86.map Prod.fst).Perm registerNames86 := by decide

theorem names51_eq : names51.map Prod.fst = operandNames51 := by decide

theorem refusedNames86_eq : refusedNames86 = unreachableNames86 := by decide

theorem refusedNames51_eq : refusedNames51 = unreachableNames51 := by decide

/-- The names the claims list are those the model knows. -/
theorem operandName_iff_isName {a : Arch} {t : Token} : OperandName a t ↔ isName a t = true := by
  cases a with
  | core86 =>
    rw [OperandName, isName, Bool.or_eq_true, lookup_isSome_iff, names86_perm.mem_iff, refusedNames86_eq,
      List.contains_iff_mem]
  | core51 =>
    rw [OperandName, isName, Bool.or_eq_true, lookup_isSome_iff, names51_eq, isRefusedName51, Bool.or_eq_true,
      refusedNames51_eq, List.contains_iff_mem, beq_iff_eq]

theorem isName_eq_false {a : Arch} {t : Token} (h : ¬OperandName a t) : isName a t = false :=
  Bool.eq_false_iff.mpr fun hname => h (operandName_iff_isName.mpr hname)

/-! ### The fallback as an operand -/

section
variable {t : Token}

theorem lit_fallback {a : Arch} (h : PlainBody t) (hdigit : NoLeadingDigit a t) : lit a t = .ok .zero :=
  (lit_plain_bare h).trans (defaultBody_zero t hdigit)

theorem lit_marked_fallback {a : Arch} (h : PlainBody t) (hdigit : NoLeadingDigit a t) (hname : ¬OperandName a t) :
    lit a ('#' :: t) = .ok .zero :=
  (lit_plain (body := t) rfl h fun _ => isName_eq_false hname).trans (defaultBody_zero _ hdigit)

theorem cls86_fallback (h : PlainBody t) (hdigit : NoLeadingDigit .core86 t) (hname : ¬OperandName .core86 t) :
    cls86 t = .ok (.lit 0) := cls86_of_lit (isName_eq_false hname) (lit_fallback h hdigit)

theorem cls86_marked_fallback (h : PlainBody t) (hdigit : NoLeadingDigit .core86 t)
    (hname : ¬OperandName .core86 t) : cls86 ('#' :: t) = .ok (.lit 0) :=
  cls86_of_lit (isName_marked _ t) (lit_marked_fallback h hdigit hname)

theorem cls51_fallback (h : PlainBody t) (hdigit : NoLeadingDigit .core51 t) (hname : ¬OperandName .core51 t) :
    cls51 t = .ok (.bare 0) := by
  have hcls := cls51_of_lit (isName_eq_false hname) (lit_fallback h hdigit)
  rwa [hasMarker_plain h] at hcls

theorem cls51_marked_fallback (h : PlainBody t) (hdigit : NoLeadingDigit .core51 t)
    (hname : ¬OperandName .core51 t) : cls51 ('#' :: t) = .ok (.imm 0) :=
  cls51_of_lit (isName_marked _ t) (lit_marked_fallback h hdigit hname)

end

/-! ### Refused numerals -/

theorem lit_marked_name {a : Arch} {t : Token} (h : OperandName a t) : ∃ e, lit a ('#' :: t) = .error e :=
  lit_error_of_not_checked fun hc => by
    have hname : isName a t = true := operandName_iff_isName.mp h
    have hno : (true && isName a t) = false := hc.noMarkedName
    simp [hname] at hno

/-- A sign, with or without the marker before it (R85). -/
theorem lit_signed {a : Arch} {t : Token} {sign : Char} (hsign : sign ∈ ['-', '+'])
    (h : (stripMarker t).head? = some sign) : ∃ e, lit a t = .error e :=
  lit_error_of_not_checked fun hc => by
    have hno := hc.unsigned
    rw [h] at hno
    fin_cases hsign <;> cases hno

/-- A body after `0x` or `0X` that is empty or holds an invalid digit (R85). -/
theorem lit_hexMark_refused {a : Arch} {t body : Token} (hmark : hasHexMark (stripMarker t) = true)
    (hbody : (stripMarker t).drop 2 = body) (h : body = [] ∨ ∃ c ∈ body, c ∉ validDigits 16) :
    ∃ e, lit a t = .error e :=
  lit_error_of_litBody ⟨_, by rw [litBody, if_pos hmark, hbody, strictBody_refused t le_rfl h]⟩

theorem mem_drop_of_hasHexMark {body : Token} {c : Char} (hmark : hasHexMark body = true) (hc : c ∈ body)
    (hno : c ∉ ['0', 'x', 'X']) : c ∈ body.drop 2 := by
  rw [← List.take_append_drop 2 body, List.mem_append] at hc
  refine hc.resolve_left fun htake => hno ?_
  simp only [hasHexMark, Bool.or_eq_true, beq_iff_eq] at hmark
  have hsubset : body.take 2 ⊆ ['0', 'x', 'X'] := by
    obtain hx | hx := hmark
    · simp [hx]
    · simp [hx]
  exact hsubset htake

/-- A token that ends in `H`, whose body is empty or holds an invalid digit; after a hexadecimal mark it is the `H`
that is invalid. -/
theorem lit_suffixH_refused {a : Arch} {body : Token} (h : body = [] ∨ ∃ c ∈ body, c ∉ validDigits 16)
    (hhead : body.head? ≠ some '#') : ∃ e, lit a (body ++ ['H']) = .error e := by
  have hstrip : stripMarker (body ++ ['H']) = body ++ ['H'] := stripMarker_append hhead (by decide)
  cases hmark : hasHexMark (body ++ ['H']) with
  | true =>
    have hH := mem_drop_of_hasHexMark hmark (c := 'H') (by simp) (by decide)
    exact lit_hexMark_refused (by rwa [hstrip]) (by rw [hstrip]) (.inr ⟨'H', hH, by decide⟩)
  | false =>
    refine lit_error_of_litBody ⟨.refusedNumeral (body ++ ['H']), ?_⟩
    rw [hstrip, litBody, hmark]
    simp [strictBody_refused _ le_rfl h]

/-- A token that ends in `B`, whose body is empty or holds an invalid digit, and that has no hexadecimal mark. -/
theorem lit_suffixB_refused {a : Arch} {body : Token} (h : body = [] ∨ ∃ c ∈ body, c ∉ validDigits 2)
    (hhead : body.head? ≠ some '#') (hno : body.take 2 ∉ [['0', 'x'], ['0', 'X']]) :
    ∃ e, lit a (body ++ ['B']) = .error e := by
  have hstrip : stripMarker (body ++ ['B']) = body ++ ['B'] := stripMarker_append hhead (by decide)
  have hmark : hasHexMark (body ++ ['B']) = false := by
    rcases body with _ | ⟨c, _ | ⟨d, rest⟩⟩
    · rfl
    · simp [hasHexMark]
    · simpa [hasHexMark] using hno
  refine lit_error_of_litBody ⟨.refusedNumeral (body ++ ['B']), ?_⟩
  rw [hstrip, litBody, hmark]
  simp [strictBody_refused _ (by decide : 2 ≤ 16) h]

/-- Settles O60. -/
theorem fallbackAndRefusedNumerals : Obligations.FallbackAndRefusedNumerals := by
  refine ⟨fun a t ht => ⟨lit_fallback ht, fun c hc hvalid hinvalid => ?_⟩, fun t r ht hdigit hname => ⟨?_, ?_, ?_⟩,
    fun t ht hdigit hname => ⟨?_, ?_⟩, fun a t => lit_marked_name, fun a rest sign hsign => ⟨?_, ?_⟩,
    fun a body hbody => ⟨?_, ?_, lit_suffixH_refused hbody⟩, fun a body => lit_suffixB_refused, by decide⟩
  · cases t with
    | nil => cases hc
    | cons x rest =>
      obtain rfl := Option.some.inj hc
      exact (lit_plain_bare ht).trans (defaultBody_refused _ hvalid hinvalid)
  · exact resolve86_two rfl (cls86_nameR16 r) (cls86_fallback ht hdigit hname) rfl
  · exact resolve86_two rfl (cls86_nameR16 r) (cls86_marked_fallback ht hdigit hname) rfl
  · exact resolve86_one rfl (cls86_fallback ht hdigit hname) rfl
  · exact resolve51_two rfl rfl (cls51_marked_fallback ht hdigit hname) rfl
  · exact resolve51_one rfl (cls51_fallback ht hdigit hname) rfl
  · refine lit_signed hsign ?_
    fin_cases hsign <;> rfl
  · exact lit_signed hsign rfl
  · exact lit_hexMark_refused rfl rfl hbody
  · exact lit_hexMark_refused rfl rfl hbody

end Sys2Proof.Machine
end

section
/-! PROOFS. Data movement and arithmetic of core86 (R135 to R146): what each shared operation leaves in core86, and
from that the effect of every instruction it performs. -/

namespace Sys2Proof.Machine

open Sys2Proof.Safety

/-! ### Completion -/

/-- The instruction completes with status `OK` and core86 ends in `post`; the inert cells, the latch and everything
outside core86 keep their values. -/
def Completes86 (out : Result) (s : State) (post : Core86 → Prop) : Prop :=
  ∃ t, out = .next t ∧ OnlyCore86 s t .ok ∧ Inert86 s.core86 t.core86 ∧
    t.core86.halted = s.core86.halted ∧ post t.core86

theorem Completes86.imp {out : Result} {s : State} {p q : Core86 → Prop} (h : Completes86 out s p)
    (hpq : ∀ d, p d → q d) : Completes86 out s q := by
  obtain ⟨t, hout, honly, hinert, hhalted, hp⟩ := h
  exact ⟨t, hout, honly, hinert, hhalted, hpq _ hp⟩

theorem Completes86.post_of_next {out : Result} {s t : State} {post : Core86 → Prop} (h : Completes86 out s post)
    (hout : out = .next t) : post t.core86 := by
  obtain ⟨u, hu, -, -, -, hpost⟩ := h
  obtain rfl := Host.Outcome.next.inj (hu.symm.trans hout)
  exact hpost

theorem Quiet86.inert {c d : Core86} (h : Quiet86 c d) : Inert86 c d :=
  ⟨h.CS, h.DS, h.ES, h.SS, h.IF, h.DF, h.TF, fun a => congrArg (readCell · (a % mem86Size)) h.mem⟩

theorem complete86_completes {s : State} {c : Core86} (h : Quiet86 s.core86 c) :
    Completes86 (complete86 s c) s fun d => d = c.advanceIP s.params.ipStep :=
  ⟨_, rfl, ⟨rfl, rfl, rfl, rfl, rfl⟩, (h.advanceIP _).inert, h.halted, rfl⟩

/-! ### Writes beside the flags and IP -/

@[simp] theorem wrote86_withFlags (dst : Dst86) (v : Nat) (c d : Core86) (f : Flags86) :
    Wrote86 dst v (c.withFlags f) d ↔ Wrote86 dst v c d := by
  cases dst <;> simp [Wrote86]

@[simp] theorem wrote86_advanceIP (dst : Dst86) (v : Nat) (c d : Core86) (k : Fin 2) :
    Wrote86 dst v c (d.advanceIP k) ↔ Wrote86 dst v c d := by
  cases dst <;> simp [Wrote86]

@[simp] theorem Core86.write_flags (c : Core86) (dst : Dst86) (v : Nat) : (c.write dst v).flags = c.flags := by
  obtain ⟨-, hflags, -⟩ := write86_keeps c dst v
  exact hflags

/-- What completing with new flags and a new value in the destination leaves in core86. -/
theorem complete86_write_completes {s : State} (m : Arith86) (w : Width) (a b : Nat) (dst : Dst86) (v : Nat) :
    Completes86 (complete86 s ((s.core86.withFlags (flags86 m w a b s.core86.flags)).write dst v)) s fun d =>
      Wrote86 dst v s.core86 d ∧ d.flags = flags86 m w a b s.core86.flags := by
  refine (complete86_completes (((Quiet86.refl s.core86).withFlags m w a b).write dst v)).imp ?_
  rintro _ rfl
  have hwrote := write86_wrote (s.core86.withFlags (flags86 m w a b s.core86.flags)) dst v
  simpa using hwrote

/-! ### The result flags -/

theorem testBit_top_iff {n r : Nat} (h : r < 2 ^ (n + 1)) : r.testBit n = true ↔ 2 ^ n ≤ r :=
  ⟨Nat.ge_two_pow_of_testBit, fun hle => Nat.testBit_of_two_pow_le_and_two_pow_add_one_gt hle h⟩

/-- R136: `zsp86` sets ZF, SF and PF as the result asks. -/
theorem zsp86_resultFlags {w : Width} {r : Nat} (f : Flags86) (h : r < 2 ^ widthBits w) :
    ResultFlags (widthBits w) r (zsp86 r w f) := by
  refine ⟨decide_eq_true_iff, ?_, ?_⟩
  · cases w <;> exact testBit_top_iff h
  · rw [← popcount8_eq_setBits]
    exact decide_eq_true_iff

/-- The result of an operation on masked operands is masked. -/
theorem result86_lt (m : Arith86) {w : Width} {a b : Nat} (ha : a < 2 ^ widthBits w) (hb : b < 2 ^ widthBits w) :
    result86 m w a b < 2 ^ widthBits w := by
  cases m with
  | add | sub | cmp | inc | dec => exact Nat.mod_lt _ (Nat.two_pow_pos _)
  | and => exact Nat.and_lt_two_pow a hb
  | or => exact Nat.or_lt_two_pow ha hb
  | xor => exact Nat.xor_lt_two_pow ha hb

/-- Each of the eight mnemonics sets ZF, SF and PF from its own result (R136). -/
theorem flags86_resultFlags (m : Arith86) {w : Width} {a b : Nat} (f : Flags86) (ha : a < 2 ^ widthBits w)
    (hb : b < 2 ^ widthBits w) : ResultFlags (widthBits w) (result86 m w a b) (flags86 m w a b f) := by
  have h := zsp86_resultFlags f (result86_lt m ha hb)
  cases m <;> exact h

/-! ### The shared operations -/

/-- What follows from a property of masked operands may use that they are masked. -/
theorem WithOperands.imp {c : Core86} {l r : Opd86} {p q : Width → Nat → Nat → Prop} (h : WithOperands c l r p)
    (hpq : ∀ w a b, a < 2 ^ widthBits w → b < 2 ^ widthBits w → p w a b → q w a b) : WithOperands c l r q :=
  hpq _ _ _ (Nat.mod_lt _ (Nat.two_pow_pos _)) (Nat.mod_lt _ (Nat.two_pow_pos _)) h

theorem WithOperands.elim {c : Core86} {l r : Opd86} {p : Width → Nat → Nat → Prop} {q : Prop}
    (h : WithOperands c l r p)
    (hpq : ∀ w a b, a < 2 ^ widthBits w → b < 2 ^ widthBits w → p w a b → q) : q :=
  WithOperands.imp (q := fun _ _ _ => q) h hpq

theorem move86_completes (d : Dst86) (src : Opd86) (s : State) :
    Completes86 (move86 d src s) s fun e =>
      e.flags = s.core86.flags ∧ Wrote86 d (operandValue86 s.core86 src) s.core86 e := by
  refine (complete86_completes ((Quiet86.refl s.core86).write d (s.core86.val src))).imp ?_
  rintro _ rfl
  have hwrote := write86_wrote s.core86 d (s.core86.val src)
  simpa [val_eq_operandValue86] using hwrote

theorem binary86_completes (m : Arith86) (d : Dst86) (src : Opd86) (s : State) :
    Completes86 (binary86 m d src s) s fun e => WithOperands s.core86 (dstOpd86 d) src fun w a b =>
      Wrote86 d (result86 m w a b) s.core86 e ∧ e.flags = flags86 m w a b s.core86.flags := by
  unfold binary86 WithOperands
  simp only [val_eq_operandValue86, width2_eq_operationWidth]
  exact complete86_write_completes m _ _ _ d _

theorem compare86_completes (l r : Opd86) (s : State) :
    Completes86 (compare86 l r s) s fun e => Registers86Kept s.core86 e ∧ WithOperands s.core86 l r fun w a b =>
      e.flags = flags86 .cmp w a b s.core86.flags := by
  unfold compare86 WithOperands
  simp only [val_eq_operandValue86, width2_eq_operationWidth]
  refine (complete86_completes ((Quiet86.refl s.core86).withFlags .cmp _ _ _)).imp ?_
  rintro _ rfl
  exact ⟨fun r' => by simp, rfl⟩

/-- The register of INC or DEC fits the operation's width, so R135's mask leaves it alone. -/
theorem operandValue86_lt_unaryWidth (c : Core86) (p : Config.Params) (d : Dst86) :
    operandValue86 c (dstOpd86 d) < 2 ^ widthBits (unaryWidth p d) := by
  rw [← val_eq_operandValue86]
  cases d with
  | r16 r => exact (c.getR16 r).isLt
  | r8 r =>
    have hbyte : c.val (dstOpd86 (.r8 r)) < 2 ^ 8 := (c.getR8 r).isLt
    simp only [unaryWidth]
    split
    · exact hbyte
    · exact hbyte.trans (by decide)

theorem unary86_completes (m : Arith86) (d : Dst86) (s : State) :
    Completes86 (unary86 m d s) s fun e =>
      ∃ w a, w = unaryWidth s.params d ∧ a = operandValue86 s.core86 (dstOpd86 d) ∧ a < 2 ^ widthBits w ∧
        Wrote86 d (result86 m w a 1) s.core86 e ∧ e.flags = flags86 m w a 1 s.core86.flags := by
  have hlt := operandValue86_lt_unaryWidth s.core86 s.params d
  have hmask : operandValue86 s.core86 (dstOpd86 d) % widthSize (unaryWidth s.params d) =
      operandValue86 s.core86 (dstOpd86 d) := Nat.mod_eq_of_lt hlt
  unfold unary86
  simp only [val_eq_operandValue86, width1_eq_unaryWidth, hmask]
  exact (complete86_write_completes m _ _ 1 d _).imp fun e he => ⟨_, _, rfl, rfl, hlt, he⟩

/-! ### MOV -/

/-- Settles O1: all forms are `move86`. -/
theorem mov86 : Obligations.Mov86 := fun s =>
  ⟨fun r n => move86_completes (.r16 r) (.lit n.toNat) s, fun r n => move86_completes (.r8 r) (.lit n.toNat) s,
    fun d r => move86_completes (.r16 d) (.r16 r) s, fun d r => move86_completes (.r8 d) (.r8 r) s,
    fun d src => move86_completes d src s⟩

/-! ### ADD -/

/-- The carry of R139: the unmasked sum exceeds the width's maximum. -/
theorem addFlags86_CF (w : Width) (a b : Nat) (f : Flags86) :
    (addFlags86 w a b f).CF = true ↔ 2 ^ widthBits w ≤ a + b := by
  have hpos : 0 < 2 ^ widthBits w := Nat.two_pow_pos _
  have hCF : (addFlags86 w a b f).CF = true ↔ 2 ^ widthBits w - 1 < a + b := decide_eq_true_iff
  rw [hCF]
  omega

theorem binary86_addEffect (d : Dst86) (src : Opd86) (s : State) : AddEffect86 (binary86 .add d src s) s d src := by
  obtain ⟨t, hout, honly, hinert, hhalted, hpost⟩ := binary86_completes .add d src s
  refine ⟨t, hout, honly, hinert, hhalted, WithOperands.imp hpost ?_⟩
  rintro w a b ha hb ⟨hwrote, hflags⟩
  rw [hflags]
  exact ⟨hwrote, addFlags86_CF w a b _, flags86_resultFlags .add _ ha hb, rfl, rfl⟩

/-- Settles O2: all forms are `binary86 .add`. -/
theorem add86 : Obligations.Add86 := fun s =>
  ⟨fun r n => binary86_addEffect (.r16 r) (.lit n.toNat) s, fun r n => binary86_addEffect (.r8 r) (.lit n.toNat) s,
    fun d r => binary86_addEffect (.r16 d) (.r16 r) s, fun d r => binary86_addEffect (.r8 d) (.r8 r) s,
    fun d src => binary86_addEffect d src s⟩

/-! ### SUB and CMP -/

/-- SUB and CMP set the flags of one subtraction (R140, R141). -/
theorem flags86_borrow {m : Arith86} (hm : m = .sub ∨ m = .cmp) {w : Width} {a b : Nat} (f : Flags86)
    (ha : a < 2 ^ widthBits w) (hb : b < 2 ^ widthBits w) : BorrowFlags m w a b f (flags86 m w a b f) := by
  have hresult := flags86_resultFlags m f ha hb
  rw [BorrowFlags, Nat.add_comm (2 ^ widthBits w) a]
  obtain rfl | rfl := hm <;> exact ⟨decide_eq_true_iff, hresult, rfl, rfl⟩

theorem binary86_subEffect (d : Dst86) (src : Opd86) (s : State) : SubEffect86 (binary86 .sub d src s) s d src := by
  obtain ⟨t, hout, honly, hinert, hhalted, hpost⟩ := binary86_completes .sub d src s
  refine ⟨t, hout, honly, hinert, hhalted, WithOperands.imp hpost ?_⟩
  rintro w a b ha hb ⟨hwrote, hflags⟩
  rw [hflags, Nat.add_comm (2 ^ widthBits w) a]
  exact ⟨hwrote, flags86_borrow (.inl rfl) _ ha hb⟩

/-- Settles O3: all forms are `binary86 .sub`. -/
theorem sub86 : Obligations.Sub86 := fun s =>
  ⟨fun r n => binary86_subEffect (.r16 r) (.lit n.toNat) s, fun r n => binary86_subEffect (.r8 r) (.lit n.toNat) s,
    fun d r => binary86_subEffect (.r16 d) (.r16 r) s, fun d r => binary86_subEffect (.r8 d) (.r8 r) s,
    fun d src => binary86_subEffect d src s⟩

theorem compare86_cmpEffect (l r : Opd86) (s : State) : CmpEffect86 (compare86 l r s) s l r := by
  obtain ⟨t, hout, honly, hinert, hhalted, hregs, hpost⟩ := compare86_completes l r s
  refine ⟨t, hout, honly, hinert, hhalted, hregs, WithOperands.imp hpost fun w a b ha hb hflags => ?_⟩
  rw [hflags]
  exact flags86_borrow (.inr rfl) _ ha hb

/-- Settles O4: all forms are `compare86`. -/
theorem cmp86 : Obligations.Cmp86 := fun s =>
  ⟨fun r n => compare86_cmpEffect (.r16 r) (.lit n.toNat) s, fun r n => compare86_cmpEffect (.r8 r) (.lit n.toNat) s,
    fun d r => compare86_cmpEffect (.r16 d) (.r16 r) s, fun d r => compare86_cmpEffect (.r8 d) (.r8 r) s,
    fun l r => compare86_cmpEffect l r s⟩

/-! ### INC and DEC -/

theorem one_lt_two_pow_widthBits (w : Width) : 1 < 2 ^ widthBits w := by cases w <;> decide

/-- INC and DEC differ in how they move the operand alone: ZF, SF and PF follow the result, the rest is free (R137). -/
theorem unary86_effect {m : Arith86} (hm : m = .inc ∨ m = .dec) {move : Nat → Nat → Nat}
    (hmove : ∀ w a, result86 m w a 1 = move (2 ^ widthBits w) a % 2 ^ widthBits w) (d : Dst86) (s : State) :
    UnaryEffect86 m move (unary86 m d s) s d := by
  obtain ⟨t, hout, honly, hinert, hhalted, w, a, hw, ha, hlt, hwrote, hflags⟩ := unary86_completes m d s
  have hresult := flags86_resultFlags m s.core86.flags hlt (one_lt_two_pow_widthBits w)
  refine ⟨t, hout, honly, hinert, hhalted, w, a, hw, ha, ?_⟩
  rw [← hmove, hflags]
  obtain rfl | rfl := hm <;> exact ⟨hwrote, hresult, rfl, rfl, rfl⟩

theorem unary86_incEffect (d : Dst86) (s : State) : UnaryEffect86 .inc (fun _ a => a + 1) (unary86 .inc d s) s d :=
  unary86_effect (.inl rfl) (fun _ _ => rfl) d s

theorem unary86_decEffect (d : Dst86) (s : State) :
    UnaryEffect86 .dec (fun size a => size + a - 1) (unary86 .dec d s) s d :=
  unary86_effect (.inr rfl) (fun w a => by rw [Nat.add_comm]; rfl) d s

/-- Settles O5: INC is `unary86 .inc` and DEC `unary86 .dec`. -/
theorem incDec86 : Obligations.IncDec86 := fun s =>
  ⟨fun r => unary86_incEffect (.r16 r) s, fun r => unary86_incEffect (.r8 r) s,
    fun r => unary86_decEffect (.r16 r) s, fun r => unary86_decEffect (.r8 r) s⟩

/-! ### AND, OR, XOR -/

/-- AND, OR and XOR differ in the bit function alone. -/
theorem binary86_logicEffect {m : Arith86} {bit : Bool → Bool → Bool}
    (hbit : ∀ w a b k, (result86 m w a b).testBit k = bit (a.testBit k) (b.testBit k))
    (hlogic : ∀ w a b f, flags86 m w a b f = logicFlags86 m w a b f) (d : Dst86) (src : Opd86) (s : State) :
    LogicEffect86 m bit (binary86 m d src s) s d src := by
  obtain ⟨t, hout, honly, hinert, hhalted, hpost⟩ := binary86_completes m d src s
  refine ⟨t, hout, honly, hinert, hhalted, WithOperands.imp hpost ?_⟩
  rintro w a b ha hb ⟨hwrote, hflags⟩
  have hresult := flags86_resultFlags m s.core86.flags ha hb
  rw [hlogic] at hflags hresult
  rw [hflags]
  exact ⟨_, result86_lt m ha hb, hbit w a b, hwrote, hresult, rfl, rfl, rfl⟩

theorem binary86_andEffect (d : Dst86) (src : Opd86) (s : State) :
    LogicEffect86 .and (fun x y => x && y) (binary86 .and d src s) s d src :=
  binary86_logicEffect (fun _ _ _ _ => Nat.testBit_and _ _ _) (fun _ _ _ _ => rfl) d src s

theorem binary86_orEffect (d : Dst86) (src : Opd86) (s : State) :
    LogicEffect86 .or (fun x y => x || y) (binary86 .or d src s) s d src :=
  binary86_logicEffect (fun _ _ _ _ => Nat.testBit_or _ _ _) (fun _ _ _ _ => rfl) d src s

theorem binary86_xorEffect (d : Dst86) (src : Opd86) (s : State) :
    LogicEffect86 .xor (fun x y => x != y) (binary86 .xor d src s) s d src :=
  binary86_logicEffect (fun _ _ _ _ => Nat.testBit_xor _ _ _) (fun _ _ _ _ => rfl) d src s

/-- Settles O6: all forms are `binary86` of their mnemonic. -/
theorem logic86 : Obligations.Logic86 := fun s =>
  ⟨fun r n => binary86_andEffect (.r16 r) (.lit n.toNat) s, fun r n => binary86_andEffect (.r8 r) (.lit n.toNat) s,
    fun d r => binary86_andEffect (.r16 d) (.r16 r) s, fun d r => binary86_andEffect (.r8 d) (.r8 r) s,
    fun d src => binary86_andEffect d src s,
    fun r n => binary86_orEffect (.r16 r) (.lit n.toNat) s, fun r n => binary86_orEffect (.r8 r) (.lit n.toNat) s,
    fun d r => binary86_orEffect (.r16 d) (.r16 r) s, fun d r => binary86_orEffect (.r8 d) (.r8 r) s,
    fun d src => binary86_orEffect d src s,
    fun r n => binary86_xorEffect (.r16 r) (.lit n.toNat) s, fun r n => binary86_xorEffect (.r8 r) (.lit n.toNat) s,
    fun d r => binary86_xorEffect (.r16 d) (.r16 r) s, fun d r => binary86_xorEffect (.r8 d) (.r8 r) s,
    fun d src => binary86_xorEffect d src s⟩

/-! ### Which instructions write flags -/

/-- ZF, SF and PF are those of some result of some width. -/
def ResultFlagsOfSome (f : Flags86) : Prop := ∃ w r, r < 2 ^ widthBits w ∧ ResultFlags (widthBits w) r f

theorem flags86_resultFlagsOfSome (m : Arith86) {w : Width} {a b : Nat} (f : Flags86) (ha : a < 2 ^ widthBits w)
    (hb : b < 2 ^ widthBits w) : ResultFlagsOfSome (flags86 m w a b f) :=
  ⟨w, _, result86_lt m ha hb, flags86_resultFlags m f ha hb⟩

/-- The operation leaves ZF, SF and PF of some result. -/
def SetsResultFlags86 (f : State → Result) : Prop :=
  ∀ s t : State, f s = .next t → ResultFlagsOfSome t.core86.flags

/-- The operation leaves core86's flags as they were. -/
def KeepsFlags86 (f : State → Result) : Prop := ∀ s t : State, f s = .next t → t.core86.flags = s.core86.flags

theorem binary86_setsResultFlags (m : Arith86) (d : Dst86) (src : Opd86) : SetsResultFlags86 (binary86 m d src) :=
  fun s _ h => WithOperands.elim ((binary86_completes m d src s).post_of_next h) fun _ _ _ ha hb ⟨_, hflags⟩ =>
    hflags ▸ flags86_resultFlagsOfSome m _ ha hb

theorem compare86_setsResultFlags (l r : Opd86) : SetsResultFlags86 (compare86 l r) := fun s t h => by
  obtain ⟨-, hoperands⟩ := (compare86_completes l r s).post_of_next h
  exact WithOperands.elim hoperands fun w a b ha hb hflags => hflags ▸ flags86_resultFlagsOfSome .cmp _ ha hb

theorem unary86_setsResultFlags (m : Arith86) (d : Dst86) : SetsResultFlags86 (unary86 m d) := fun s t h => by
  obtain ⟨w, a, -, -, hlt, -, hflags⟩ := (unary86_completes m d s).post_of_next h
  exact hflags ▸ flags86_resultFlagsOfSome m _ hlt (one_lt_two_pow_widthBits w)

theorem move86_keepsFlags (d : Dst86) (src : Opd86) : KeepsFlags86 (move86 d src) := fun s t h => by
  obtain ⟨hflags, -⟩ := (move86_completes d src s).post_of_next h
  exact hflags

theorem jump86_keepsFlags (n : Nat) : KeepsFlags86 fun s => jump86 s n := fun s t h => by
  rw [(jump86_next s t n).mp h]
  rfl

theorem branch86_keepsFlags (taken : State → Bool) (n : Nat) : KeepsFlags86 fun s => branch86 (taken s) n s :=
  fun s t h => by
    obtain ⟨-, rfl⟩ | ⟨-, rfl⟩ := (branch86_next _ _ _ _).mp h <;> rfl

theorem hlt86_keepsFlags : KeepsFlags86 execX86Hlt := fun s t h => by
  rw [(complete86_next s t _).mp h]
  rfl

theorem unknown86_keepsFlags : KeepsFlags86 unknown86 := fun s t h => by
  rw [(unknown86_next s t).mp h]
  rfl

theorem exec51_keepsFlags {i : Instr} (hi : i.arch = .core51) : KeepsFlags86 (exec i) := fun s t h => by
  obtain ⟨harch, -⟩ | ⟨-, ⟨st, hcore, -⟩, -⟩ := exec_next h
  · cases hi.symm.trans harch
  · rw [hcore]

/-- The eight mnemonics set the result flags and no other instruction writes a flag of core86. -/
theorem exec_flags86 (i : Instr) :
    (setsResultFlags i = true → SetsResultFlags86 (exec i)) ∧
      (setsResultFlags i = false → KeepsFlags86 (exec i)) := by
  cases i with
  | x86AddR16Imm16 | x86AddR8Imm8 | x86AddR16R16 | x86AddR8R8 | x86AddForm
  | x86SubR16Imm16 | x86SubR8Imm8 | x86SubR16R16 | x86SubR8R8 | x86SubForm
  | x86AndR16Imm16 | x86AndR8Imm8 | x86AndR16R16 | x86AndR8R8 | x86AndForm
  | x86OrR16Imm16 | x86OrR8Imm8 | x86OrR16R16 | x86OrR8R8 | x86OrForm
  | x86XorR16Imm16 | x86XorR8Imm8 | x86XorR16R16 | x86XorR8R8 | x86XorForm =>
    exact ⟨fun _ => binary86_setsResultFlags _ _ _, nofun⟩
  | x86CmpR16Imm16 | x86CmpR8Imm8 | x86CmpR16R16 | x86CmpR8R8 | x86CmpForm =>
    exact ⟨fun _ => compare86_setsResultFlags _ _, nofun⟩
  | x86IncR16 | x86IncR8 | x86DecR16 | x86DecR8 => exact ⟨fun _ => unary86_setsResultFlags _ _, nofun⟩
  | x86MovR16Imm16 | x86MovR8Imm8 | x86MovR16R16 | x86MovR8R8 | x86MovForm =>
    exact ⟨nofun, fun _ => move86_keepsFlags _ _⟩
  | x86Jmp | x86JmpLit => exact ⟨nofun, fun _ => jump86_keepsFlags _⟩
  | x86Je | x86JeLit | x86Jz | x86JzLit =>
    exact ⟨nofun, fun _ => branch86_keepsFlags (fun s => s.core86.flags.ZF) _⟩
  | x86Jne | x86JneLit | x86Jnz | x86JnzLit =>
    exact ⟨nofun, fun _ => branch86_keepsFlags (fun s => !s.core86.flags.ZF) _⟩
  | x86Hlt => exact ⟨nofun, fun _ => hlt86_keepsFlags⟩
  | x86Div => exact ⟨nofun, fun _ => unknown86_keepsFlags⟩
  | _ => exact ⟨nofun, fun _ => exec51_keepsFlags rfl⟩

/-- Settles O7: R136 for `zsp86`, and of the instructions what `exec_flags86` tells apart. -/
theorem resultFlags86 : Obligations.ResultFlags86 := by
  refine ⟨fun w r f h => ⟨zsp86_resultFlags f h, rfl, rfl, rfl, rfl, rfl, rfl⟩, fun i s t h => ?_⟩
  obtain ⟨hsets, hkeeps⟩ := exec_flags86 i
  exact ⟨fun hi => hsets hi s t h, fun hi => hkeeps hi s t h⟩

end Sys2Proof.Machine
end

section
/-! PROOFS. Control transfer (R160 to R171, R220 to R229): each instruction is a jump, an instruction that completes and
leaves IP or PC to `IP_STEP`, or a division that moves nothing. The splits over the constructors of `Instr` are in
`exec_control86` and `exec_control51`. -/

namespace Sys2Proof.Machine

open Sys2Proof.Safety

/-! ### IP and PC -/

theorem advanceIP_toNat (c : Core86) (k : Fin 2) : (c.advanceIP k).IP.toNat = (c.IP.toNat + k.val) % 2 ^ 16 := by
  rw [Core86.advanceIP_IP, BitVec.toNat_add, BitVec.toNat_ofNat, Nat.add_mod_mod]

theorem setPC_toNat (c : Core51) (p : Config.Params) (n : Nat) :
    (c.setPC p n).PC.toNat = n % 2 ^ pcBits p.pcWidth := by
  have hbits : 2 ^ pcBits p.pcWidth ≤ 2 ^ 16 := by cases p.pcWidth <;> decide
  have hlt := Nat.mod_lt n (Nat.two_pow_pos (pcBits p.pcWidth))
  rw [Core51.setPC_PC, BitVec.toNat_ofNat, Nat.mod_eq_of_lt (hlt.trans_le hbits)]

theorem advancePC_toNat (c : Core51) (p : Config.Params) :
    (c.advancePC p).PC.toNat = (c.PC.toNat + p.ipStep.val) % 2 ^ pcBits p.pcWidth :=
  setPC_toNat c p _

@[simp] theorem Core86.write_IP (c : Core86) (d : Dst86) (v : Nat) : (c.write d v).IP = c.IP := by
  obtain ⟨-, -, -, hIP, -⟩ := write86_keeps c d v
  exact hIP

@[simp] theorem Core51.write_PC (c : Core51) (p : Config.Params) (l : Loc51) (v : Nat) :
    (c.write p l v).PC = c.PC := by
  obtain ⟨-, -, -, -, hPC, -⟩ := write51_keeps c p l v
  exact hPC

/-! ### Jumps -/

theorem jump86_jumpEffect (n : Nat) (s : State) : JumpEffect86 (jump86 s n) s True n :=
  ⟨_, rfl, ⟨rfl, rfl, rfl, rfl, rfl⟩, rfl, fun _ => BitVec.toNat_ofNat _ _, fun h => absurd trivial h⟩

theorem complete86_jumpEffect {p : Prop} (hp : ¬p) (n : Nat) (s : State) :
    JumpEffect86 (complete86 s s.core86) s p n :=
  ⟨_, rfl, ⟨rfl, rfl, rfl, rfl, rfl⟩, rfl, fun h => absurd h hp, fun _ => advanceIP_toNat _ _⟩

theorem branch86_jumpEffect {taken : Bool} {p : Prop} (hp : taken = true ↔ p) (n : Nat) (s : State) :
    JumpEffect86 (branch86 taken n s) s p n := by
  cases taken with
  | true =>
    rw [eq_true (hp.mp rfl)]
    exact jump86_jumpEffect n s
  | false => exact complete86_jumpEffect (fun h => Bool.false_ne_true (hp.mpr h)) n s

/-- Settles O9: both forms are `jump86`. -/
theorem jmp86 : Obligations.Jmp86 := fun s =>
  ⟨fun t => jump86_jumpEffect t.toNat s, fun n => jump86_jumpEffect n s⟩

/-- Settles O10: all forms are `branch86`, JE and JZ on ZF, JNE and JNZ on its negation. -/
theorem conditionalJumps86 : Obligations.ConditionalJumps86 := fun s => by
  have onSet (n : Nat) : JumpEffect86 (branch86 s.core86.flags.ZF n s) s (s.core86.flags.ZF = true) n :=
    branch86_jumpEffect Iff.rfl n s
  have onClear (n : Nat) : JumpEffect86 (branch86 (!s.core86.flags.ZF) n s) s (s.core86.flags.ZF = false) n :=
    branch86_jumpEffect (Bool.not_eq_true' _).to_iff n s
  exact ⟨fun t => onSet t.toNat, onSet, fun t => onSet t.toNat, onSet,
    fun t => onClear t.toNat, onClear, fun t => onClear t.toNat, onClear⟩

/-! ### What an instruction of core86 does to IP -/

@[simp] theorem latched_core86 (s : State) : (latched s).core86 = s.core86.setHalted := rfl

@[simp] theorem latched_params (s : State) : (latched s).params = s.params := rfl

@[simp] theorem Core86.setHalted_val (c : Core86) (o : Opd86) : c.setHalted.val o = c.val o := by
  cases o <;> simp [Core86.val]

@[simp] theorem Core86.setHalted_withFlags (c : Core86) (f : Flags86) :
    c.setHalted.withFlags f = (c.withFlags f).setHalted := rfl

@[simp] theorem Core86.setHalted_write (c : Core86) (d : Dst86) (v : Nat) :
    c.setHalted.write d v = (c.write d v).setHalted := by
  cases d with
  | r8 r => cases r <;> rfl
  | r16 r => cases r <;> rfl

/-- What an instruction makes of core86 before IP moves on: IP stands, and the latch is only carried along (R26). -/
structure Body86 (body : State → Core86) : Prop where
  keepsIP (s : State) : (body s).IP = s.core86.IP
  latched (s : State) : body (latched s) = (body s).setHalted

/-- How an instruction of core86 treats IP: a jump on ZF (R160 to R164, R170), an advance by `IP_STEP` (R169), or DIV,
which leaves it (R166). -/
inductive Control86 (i : Instr) : (State → Result) → Prop
  | jump (taken : Bool → Bool) (n : Nat) (htaken : ∀ s, takenJump i s = taken s.core86.flags.ZF)
      (hi : i ≠ .x86Div) : Control86 i fun s => branch86 (taken s.core86.flags.ZF) n s
  | complete (body : State → Core86) (hbody : Body86 body) (hjump : ∀ s, takenJump i s = false)
      (hi : i ≠ .x86Div) : Control86 i fun s => complete86 s (body s)
  | unknown (hjump : ∀ s, takenJump i s = false) (hi : i = .x86Div) : Control86 i unknown86

theorem exec_control86 {i : Instr} (hi : i.arch = .core86) : Control86 i (exec i) := by
  cases i with
  | x86Jmp | x86JmpLit => exact .jump (fun _ => true) _ (fun _ => rfl) nofun
  | x86Je | x86JeLit | x86Jz | x86JzLit => exact .jump (fun zf => zf) _ (fun _ => rfl) nofun
  | x86Jne | x86JneLit | x86Jnz | x86JnzLit => exact .jump (fun zf => !zf) _ (fun _ => rfl) nofun
  | x86Div => exact .unknown (fun _ => rfl) rfl
  | x86Hlt => exact .complete _ ⟨fun _ => rfl, fun _ => rfl⟩ (fun _ => rfl) nofun
  | x86MovR16Imm16 | x86MovR8Imm8 | x86MovR16R16 | x86MovR8R8 | x86MovForm
  | x86AddR16Imm16 | x86AddR8Imm8 | x86AddR16R16 | x86AddR8R8 | x86AddForm
  | x86SubR16Imm16 | x86SubR8Imm8 | x86SubR16R16 | x86SubR8R8 | x86SubForm
  | x86CmpR16Imm16 | x86CmpR8Imm8 | x86CmpR16R16 | x86CmpR8R8 | x86CmpForm
  | x86IncR16 | x86IncR8 | x86DecR16 | x86DecR8
  | x86AndR16Imm16 | x86AndR8Imm8 | x86AndR16R16 | x86AndR8R8 | x86AndForm
  | x86OrR16Imm16 | x86OrR8Imm8 | x86OrR16R16 | x86OrR8R8 | x86OrForm
  | x86XorR16Imm16 | x86XorR8Imm8 | x86XorR16R16 | x86XorR8R8 | x86XorForm =>
    exact .complete _ ⟨fun _ => by simp, fun _ => by simp⟩ (fun _ => rfl) nofun
  | _ => cases hi

/-! ### What an instruction of core51 does to PC -/

/-- How an instruction of core51 treats PC: a jump (R220 to R225), an advance by `IP_STEP` (R229), or DIV AB, which
leaves PC when B is 0 (R201). -/
inductive Control51 (i : Instr) : (State → Result) → Prop
  | jump (taken : Core51 → Bool) (n : Nat) (htaken : ∀ s, takenJump i s = taken s.core51)
      (hi : i ≠ .i51DivAB) : Control51 i fun s => branch51 (taken s.core51) n s
  | complete (body : State → Core51) (hbody : ∀ s, (body s).PC = s.core51.PC)
      (hjump : ∀ s, takenJump i s = false) (hi : i ≠ .i51DivAB) : Control51 i fun s => complete51 s (body s)
  | divide (hjump : ∀ s, takenJump i s = false) (hi : i = .i51DivAB) : Control51 i execI51DivAB

theorem exec_control51 {i : Instr} (hi : i.arch = .core51) : Control51 i (exec i) := by
  cases i with
  | i51Sjmp | i51SjmpLit => exact .jump (fun _ => true) _ (fun _ => rfl) nofun
  | i51Jz | i51JzLit => exact .jump (fun c => decide (c.A = 0)) _ (fun _ => rfl) nofun
  | i51Jnz | i51JnzLit => exact .jump (fun c => decide (c.A ≠ 0)) _ (fun _ => rfl) nofun
  | i51Jc | i51JcLit => exact .jump (fun c => c.flags.C) _ (fun _ => rfl) nofun
  | i51Jnc | i51JncLit => exact .jump (fun c => !c.flags.C) _ (fun _ => rfl) nofun
  | i51DivAB => exact .divide (fun _ => rfl) rfl
  | i51MovAImm | i51MovBImm | i51MovRnImm | i51MovARn | i51MovRnA | i51MovAB | i51MovBA | i51MovBRn | i51MovRnB
  | i51MovForm | i51MovxADptr | i51MovxARi | i51IncA | i51IncB | i51IncRn | i51DecA | i51DecB | i51DecRn =>
    exact .complete _ (fun _ => Core51.write_PC ..) (fun _ => rfl) nofun
  | i51MovDptrImm | i51MovDptrLit | i51MovxDptrA | i51MovxRiA | i51IncDptr | i51DecDptr | i51MulAB | i51RlcA
  | i51RrcA | i51ClrC | i51SetbC | i51CplC => exact .complete _ (fun _ => rfl) (fun _ => rfl) nofun
  | _ => cases hi

/-! ### The advance of IP and PC -/

/-- An instruction of core86 that is not a taken jump moves IP on by `IP_STEP`, but for DIV (R166, R169). -/
theorem exec_advancesIP {i : Instr} {s t : State} (hi : i.arch = .core86) (hno : takenJump i s = false)
    (h : exec i s = .next t) :
    t.core86.IP.toNat =
      if i = .x86Div then s.core86.IP.toNat else (s.core86.IP.toNat + s.params.ipStep.val) % 2 ^ 16 := by
  have control := exec_control86 hi
  generalize exec i = f at control h
  cases control with
  | jump taken n htaken hne =>
    obtain ⟨htrue, -⟩ | ⟨-, rfl⟩ := (branch86_next _ _ _ _).mp h
    · cases (hno.symm.trans (htaken s)).trans htrue
    · rw [if_neg hne]
      exact advanceIP_toNat _ _
  | complete body hbody _ hne =>
    rw [if_neg hne, (complete86_next _ _ _).mp h, ← hbody.keepsIP s]
    exact advanceIP_toNat _ _
  | unknown _ hdiv =>
    rw [if_pos hdiv, (unknown86_next _ _).mp h]
    rfl

theorem execI51DivAB_advancesPC {s t : State} (h : execI51DivAB s = .next t) :
    if s.core51.B = 0 then t.core51.PC = s.core51.PC
    else t.core51.PC.toNat = (s.core51.PC.toNat + s.params.ipStep.val) % 2 ^ pcBits s.params.pcWidth := by
  unfold execI51DivAB at h
  split at h
  · next hB =>
    rw [if_pos hB, (divideByZero51_next _ _).mp h]
    rfl
  · next hB =>
    rw [if_neg hB, (complete51_next _ _ _).mp h]
    exact advancePC_toNat _ _

/-- An instruction of core51 that is not a taken jump moves PC on by `IP_STEP`, but for DIV AB by zero (R201, R229). -/
theorem exec_advancesPC {i : Instr} {s t : State} (hi : i.arch = .core51) (hno : takenJump i s = false)
    (h : exec i s = .next t) :
    if i = .i51DivAB ∧ s.core51.B = 0 then t.core51.PC = s.core51.PC
    else t.core51.PC.toNat = (s.core51.PC.toNat + s.params.ipStep.val) % 2 ^ pcBits s.params.pcWidth := by
  have control := exec_control51 hi
  generalize exec i = f at control h
  cases control with
  | jump taken n htaken hne =>
    obtain ⟨htrue, -⟩ | ⟨-, rfl⟩ := (branch51_next _ _ _ _).mp h
    · cases (hno.symm.trans (htaken s)).trans htrue
    · rw [if_neg fun hdiv => hne hdiv.1]
      exact advancePC_toNat _ _
  | complete body hbody _ hne =>
    rw [if_neg fun hdiv => hne hdiv.1, (complete51_next _ _ _).mp h, ← hbody s]
    exact advancePC_toNat _ _
  | divide _ hdiv => simpa only [hdiv, true_and] using execI51DivAB_advancesPC h

/-- Settles O13. -/
theorem pointerAdvance : Obligations.PointerAdvance :=
  ⟨fun _ _ _ => exec_advancesIP, fun _ _ _ => exec_advancesPC⟩

/-! ### Jumps redirect nothing -/

/-- A taken jump changes IP or PC and no other cell of the two cores (R171, R228). -/
theorem takenJump_changes_pointer {i : Instr} {s t : State} (htaken : takenJump i s = true)
    (h : exec i s = .next t) :
    t.core86 = { s.core86 with IP := t.core86.IP } ∧ t.core51 = { s.core51 with PC := t.core51.PC } := by
  cases hi : i.arch with
  | core86 =>
    have control := exec_control86 hi
    generalize exec i = f at control h
    cases control with
    | jump taken n _ _ => obtain ⟨-, rfl⟩ | ⟨-, rfl⟩ := (branch86_next _ _ _ _).mp h <;> exact ⟨rfl, rfl⟩
    | complete body _ hjump _ => cases htaken.symm.trans (hjump s)
    | unknown hjump _ => cases htaken.symm.trans (hjump s)
  | core51 =>
    have control := exec_control51 hi
    generalize exec i = f at control h
    cases control with
    | jump taken n _ _ => obtain ⟨-, rfl⟩ | ⟨-, rfl⟩ := (branch51_next _ _ _ _).mp h <;> exact ⟨rfl, rfl⟩
    | complete body _ hjump _ => cases htaken.symm.trans (hjump s)
    | divide hjump _ => cases htaken.symm.trans (hjump s)

/-- A step that runs an entry is that entry's transaction and a move of the cursor (R267). -/
theorem step_of_entry {s t : State} {r : Record} (hentry : s.session.listing[s.session.cursor]? = some r)
    (hrun : haltCheck s.session.selected s = false) (h : step s = .next t) :
    ∃ u, executeRecord s.session.selected r s = .next u ∧ t = advanceCursor u := by
  simp only [step, stepSession, hentry, hrun, Bool.false_eq_true, if_false] at h
  split at h
  · next u hu => exact ⟨u, hu, (Host.Outcome.next.inj h).symm⟩
  · cases h
  · cases h

/-- An instruction appends to the log of the session and leaves the rest of it. -/
theorem exec_session {i : Instr} {s t : State} (h : exec i s = .next t) :
    ∃ st, t.session = { s.session with log := s.session.log ++ [st] } := by
  obtain ⟨-, ⟨st, -, -, -, -, hsession⟩, -⟩ | ⟨-, ⟨st, -, -, -, -, hsession⟩, -⟩ := exec_next h <;>
    exact ⟨st, hsession⟩

/-- Settles O28. -/
theorem jumpsDoNotRedirect : Obligations.JumpsDoNotRedirect := by
  refine ⟨fun s t r hentry hrun h => ?_, fun i s t => takenJump_changes_pointer⟩
  obtain ⟨u, hu, rfl⟩ := step_of_entry hentry hrun h
  obtain ⟨i, -, hi⟩ := executeRecord_next.mp hu
  obtain ⟨st, hsession⟩ := exec_session hi
  simp [hsession]

/-! ### HLT and DIV -/

/-- A halted core86 is stepped no further (R267). -/
theorem step_halted {s : State} (hselected : s.session.selected = .core86) (hhalted : s.core86.halted = true) :
    step s = .next s := by
  have hcheck : haltCheck s.session.selected s = true := by rw [hselected]; exact hhalted
  unfold step stepSession
  split
  · rfl
  · rw [if_pos hcheck]

/-- On core86 the latch changes nothing of what an instruction does but that it stays set (R26). -/
theorem exec_latched86 {i : Instr} (hi : i.arch = .core86) {s t : State} (h : exec i s = .next t) :
    exec i (latched s) = .next (latched t) := by
  have control := exec_control86 hi
  generalize exec i = f at control h
  cases control with
  | jump taken n _ _ =>
    rw [branch86_next] at h ⊢
    obtain ⟨htaken, rfl⟩ | ⟨htaken, rfl⟩ := h
    · exact .inl ⟨htaken, rfl⟩
    · exact .inr ⟨htaken, rfl⟩
  | complete body hbody _ _ =>
    rw [complete86_next] at h ⊢
    rw [h, hbody.latched]
    rfl
  | unknown _ _ =>
    rw [unknown86_next] at h ⊢
    rw [h]
    rfl

/-- core51's instructions see core51 and the parameters alone (R45). -/
theorem exec_latched {i : Instr} {s t : State} (h : exec i s = .next t) :
    exec i (latched s) = .next (latched t) := by
  cases hi : i.arch with
  | core86 => exact exec_latched86 hi h
  | core51 =>
    obtain ⟨c, st, -, hf⟩ := exec_acts51 hi s
    obtain rfl := Host.Outcome.next.inj ((hf s rfl rfl).symm.trans h)
    exact hf (latched s) rfl rfl

/-- Settles O11. -/
theorem hlt86 : Obligations.Hlt86 :=
  ⟨fun _ => ⟨_, rfl, ⟨rfl, rfl, rfl, rfl, rfl⟩, rfl⟩, fun _ => step_halted, fun _ _ _ => exec_latched⟩

/-- DIV is told by its mnemonic, before any operand is looked at (R246). -/
theorem resolve86_div {r : Record} (hm : mnemonics86.lookup r.mnemonic = some .div) :
    resolve .core86 r = .ok .x86Div := by
  simp [resolve, resolve86, hm]

/-- Settles O12. -/
theorem div86 : Obligations.Div86 :=
  ⟨fun _ _ => resolve86_div rfl, fun _ => ⟨_, rfl, ⟨rfl, rfl, rfl, rfl, rfl⟩, rfl⟩⟩

end Sys2Proof.Machine
end

section
/-! PROOFS. Refused records (O59): what is no instruction of either core, and which tokens no core and no assembler
reads (R83, R130, R131, R168, R181, R227). -/

namespace Sys2Proof.Machine

open Sys2Proof.Safety

/-! ### From a refused record to a refused transaction -/

theorem executeRecord_refused {a : Arch} {r : Record} {e : Refusal} (h : resolve a r = .error e) (s : State) :
    executeRecord a r s = .refused e := by
  simp [executeRecord, h]

/-! ### Unlisted mnemonics -/

theorem lookup_eq_none {β : Type} {l : List (Token × β)} {t : Token} (h : t ∉ l.map Prod.fst) : l.lookup t = none :=
  Option.not_isSome_iff_eq_none.mp fun hsome => h (lookup_isSome_iff.mp hsome)

theorem resolve86_unlisted {r : Record} (h : r.mnemonic ∉ mnemonics86.map Prod.fst) :
    resolve .core86 r = .error (.unlistedMnemonic .core86 r.mnemonic) := by
  simp [resolve, resolve86, lookup_eq_none h]

theorem resolve51_unlisted {r : Record} (h : r.mnemonic ∉ mnemonics51.map Prod.fst) :
    resolve .core51 r = .error (.unlistedMnemonic .core51 r.mnemonic) := by
  simp [resolve, resolve51, lookup_eq_none h]

/-! ### Inadmissible forms -/

/-- A record whose classified operands are outside the table of R134; DIV admits any. -/
theorem resolve86_inadmissible {r : Record} {m : Mnem86} {ops : List Opd86}
    (hm : mnemonics86.lookup r.mnemonic = some m) (hops : clsAll cls86 r.operands = .ok ops)
    (hform : form86 m ops = none) : resolve .core86 r = .error (.inadmissibleForm .core86 r.mnemonic) := by
  cases m with
  | div => cases hform
  | _ => simp [resolve, resolve86, hm, hops, hform]

/-- A record whose classified operands are outside the table of R194. -/
theorem resolve51_inadmissible {r : Record} {m : Mnem51} {ops : List Cls51}
    (hm : mnemonics51.lookup r.mnemonic = some m) (hops : clsAll cls51 r.operands = .ok ops)
    (hform : form51 m ops = none) : resolve .core51 r = .error (.inadmissibleForm .core51 r.mnemonic) := by
  simp [resolve, resolve51, hm, hops, hform]

/-- The names of core86 are registers, which are destinations (R131, R133). -/
theorem cls86_registerName {t : Token} (h : t ∈ registerNames86) : ∃ d, cls86 t = .ok (dstOpd86 d) := by
  have hdst : ∀ x ∈ names86, ∃ d, x.2 = dstOpd86 d := fun x hx => by
    obtain hx | hx := List.mem_append.mp hx <;> obtain ⟨r, -, rfl⟩ := List.mem_map.mp hx
    · exact ⟨.r8 r, rfl⟩
    · exact ⟨.r16 r, rfl⟩
  obtain ⟨c, hc⟩ := Option.isSome_iff_exists.mp (lookup_isSome_iff.mpr (names86_perm.mem_iff.mpr h))
  obtain ⟨d, rfl⟩ : ∃ d, c = dstOpd86 d := hdst _ (mem_of_lookup hc)
  exact ⟨d, by simp [cls86, hc]⟩

/-- A jump of core86 takes no register as its target (R170). -/
theorem jumpForm86_dst (make : Nat → Instr) (d : Dst86) : jumpForm86 make [dstOpd86 d] = none := by
  cases d <;> rfl

/-- Is the operand a literal, bare or with the marker (R181)? -/
def isLiteral51 : Cls51 → Bool
  | .imm _ => true
  | .bare _ => true
  | _ => false

/-- No name of core51 is a literal. -/
theorem cls51_operandName {t : Token} (h : t ∈ operandNames51) :
    ∃ c, cls51 t = .ok c ∧ isLiteral51 c = false := by
  have hname : ∀ x ∈ names51, isLiteral51 x.2 = false := by decide
  obtain ⟨c, hc⟩ := Option.isSome_iff_exists.mp (lookup_isSome_iff.mpr (names51_eq ▸ h))
  exact ⟨c, by simp [cls51, hc], hname _ (mem_of_lookup hc)⟩

/-- A jump of core51 takes a literal only (R220). -/
theorem jumpForm51_of_not_literal (row : Byte → Instr) (wide : Nat → Instr) {c : Cls51}
    (h : isLiteral51 c = false) : jumpForm51 row wide [c] = none := by
  unfold jumpForm51
  split
  · next heq => cases heq; cases h
  · next heq => cases heq; cases h
  · rfl

/-! ### Jumps to a name -/

theorem jumpMnemonic86 {m : Token} (hm : m ∈ ["JMP", "JE", "JZ", "JNE", "JNZ"].map tok) :
    ∃ mm make, mnemonics86.lookup m = some mm ∧ ∀ ops, form86 mm ops = jumpForm86 make ops := by
  fin_cases hm <;> exact ⟨_, _, rfl, fun _ => rfl⟩

theorem jumpMnemonic51 {m : Token} (hm : m ∈ ["SJMP", "JZ", "JNZ", "JC", "JNC"].map tok) :
    ∃ mm row wide, mnemonics51.lookup m = some mm ∧ ∀ ops, form51 mm ops = jumpForm51 row wide ops := by
  fin_cases hm <;> exact ⟨_, _, _, rfl, fun _ => rfl⟩

theorem resolve86_jump_name {m t : Token} (hm : m ∈ ["JMP", "JE", "JZ", "JNE", "JNZ"].map tok)
    (ht : t ∈ registerNames86) :
    resolve .core86 { mnemonic := m, operands := [t] } = .error (.inadmissibleForm .core86 m) := by
  obtain ⟨mm, make, hlookup, hform⟩ := jumpMnemonic86 hm
  obtain ⟨d, hd⟩ := cls86_registerName ht
  exact resolve86_inadmissible hlookup (clsAll_one hd) ((hform _).trans (jumpForm86_dst make d))

theorem resolve51_jump_name {m t : Token} (hm : m ∈ ["SJMP", "JZ", "JNZ", "JC", "JNC"].map tok)
    (ht : t ∈ operandNames51) :
    resolve .core51 { mnemonic := m, operands := [t] } = .error (.inadmissibleForm .core51 m) := by
  obtain ⟨mm, row, wide, hlookup, hform⟩ := jumpMnemonic51 hm
  obtain ⟨c, hc, hname⟩ := cls51_operandName ht
  exact resolve51_inadmissible hlookup (clsAll_one hc) ((hform _).trans (jumpForm51_of_not_literal row wide hname))

/-! ### A literal as the destination -/

theorem dstMnemonic86 {m : Token} (hm : m ∈ ["MOV", "ADD", "SUB", "AND", "OR", "XOR"].map tok) :
    ∃ mm make, mnemonics86.lookup m = some mm ∧ ∀ ops, form86 mm ops = dstForm86 make ops := by
  fin_cases hm <;> exact ⟨_, _, rfl, fun _ => rfl⟩

theorem unaryMnemonic86 {m : Token} (hm : m ∈ ["INC", "DEC"].map tok) :
    ∃ mm r16 r8, mnemonics86.lookup m = some mm ∧ ∀ ops, form86 mm ops = unaryForm86 r16 r8 ops := by
  fin_cases hm <;> exact ⟨_, _, _, rfl, fun _ => rfl⟩

theorem resolve86_literal_dst {m t src : Token} {n : Nat} {o : Opd86} (ht : cls86 t = .ok (.lit n))
    (hsrc : cls86 src = .ok o) (hm : m ∈ ["MOV", "ADD", "SUB", "AND", "OR", "XOR"].map tok) :
    resolve .core86 { mnemonic := m, operands := [t, src] } = .error (.inadmissibleForm .core86 m) := by
  obtain ⟨mm, make, hlookup, hform⟩ := dstMnemonic86 hm
  exact resolve86_inadmissible hlookup (clsAll_two ht hsrc) (hform _)

theorem resolve86_literal_unary {m t : Token} {n : Nat} (ht : cls86 t = .ok (.lit n))
    (hm : m ∈ ["INC", "DEC"].map tok) :
    resolve .core86 { mnemonic := m, operands := [t] } = .error (.inadmissibleForm .core86 m) := by
  obtain ⟨mm, r16, r8, hlookup, hform⟩ := unaryMnemonic86 hm
  exact resolve86_inadmissible hlookup (clsAll_one ht) (hform _)

theorem moveMnemonic51 {m : Token} (hm : m ∈ ["MOV", "MOVX"].map tok) :
    ∃ mm, mnemonics51.lookup m = some mm ∧ ∀ marker n o, form51 mm [literal51 marker n, o] = none := by
  fin_cases hm <;> exact ⟨_, rfl, fun marker n o => by cases marker <;> rfl⟩

theorem stepMnemonic51 {m : Token} (hm : m ∈ ["INC", "DEC"].map tok) :
    ∃ mm, mnemonics51.lookup m = some mm ∧ ∀ marker n, form51 mm [literal51 marker n] = none := by
  fin_cases hm <;> exact ⟨_, rfl, fun marker n => by cases marker <;> rfl⟩

theorem resolve51_literal_dst {m t src : Token} {marker : Bool} {n : Nat} {o : Cls51}
    (ht : cls51 t = .ok (literal51 marker n)) (hsrc : cls51 src = .ok o) (hm : m ∈ ["MOV", "MOVX"].map tok) :
    resolve .core51 { mnemonic := m, operands := [t, src] } = .error (.inadmissibleForm .core51 m) := by
  obtain ⟨mm, hlookup, hform⟩ := moveMnemonic51 hm
  exact resolve51_inadmissible hlookup (clsAll_two ht hsrc) (hform marker n o)

theorem resolve51_literal_step {m t : Token} {marker : Bool} {n : Nat} (ht : cls51 t = .ok (literal51 marker n))
    (hm : m ∈ ["INC", "DEC"].map tok) :
    resolve .core51 { mnemonic := m, operands := [t] } = .error (.inadmissibleForm .core51 m) := by
  obtain ⟨mm, hlookup, hform⟩ := stepMnemonic51 hm
  exact resolve51_inadmissible hlookup (clsAll_one ht) (hform marker n)

/-! ### Refused names -/

theorem cls86_unreachableName {t : Token} (h : t ∈ unreachableNames86) : cls86 t = .error (.refusedName t) := by
  rw [← refusedNames86_eq] at h
  have hlookup : ∀ x ∈ refusedNames86, names86.lookup x = none := by decide
  simp [cls86, hlookup t h, h]

theorem cls51_refusedName {t : Token} (hno : t ∉ operandNames51) (h : isRefusedName51 t = true) :
    cls51 t = .error (.refusedName t) := by
  rw [← names51_eq] at hno
  simp [cls51, lookup_eq_none hno, h]

theorem cls51_unreachableName {t : Token} (h : t ∈ unreachableNames51) : cls51 t = .error (.refusedName t) := by
  have hno : ∀ x ∈ unreachableNames51, x ∉ operandNames51 := by decide
  refine cls51_refusedName (hno t h) ?_
  rw [← refusedNames51_eq] at h
  simp [isRefusedName51, h]

/-! ### Lower-case letters -/

theorem stripMarker_append_cons (pre post : List Char) {c : Char} (hc : c ≠ '#') :
    stripMarker (pre ++ c :: post) = stripMarker pre ++ c :: post := by
  cases pre with
  | nil => exact stripMarker_of_head_ne (by simpa using hc)
  | cons x rest =>
    by_cases hx : x = '#'
    · subst hx
      rfl
    · have hhead : ∀ ts : List Char, (x :: ts).head? ≠ some '#' := fun ts => by simpa using hx
      rw [stripMarker_of_head_ne (hhead rest)]
      exact stripMarker_of_head_ne (hhead _)

/-- A hexadecimal mark takes no lower-case letter away but the `x` of `0x`. -/
theorem mem_drop_hexMark {body post : List Char} {c : Char} (hc : c.isLower = true)
    (hno : ¬(c = 'x' ∧ body = ['0'])) (hmark : hasHexMark (body ++ c :: post) = true) :
    c ∈ (body ++ c :: post).drop 2 := by
  simp only [hasHexMark, Bool.or_eq_true, beq_iff_eq] at hmark
  rcases body with _ | ⟨y, _ | ⟨z, rest⟩⟩
  · have hzero : c = '0' := by
      obtain h | h := hmark <;> exact (List.cons.inj h).1
    subst hzero
    cases hc
  · obtain h | h := hmark
    · obtain ⟨rfl, rfl⟩ : y = '0' ∧ c = 'x' := by simpa using h
      exact absurd ⟨rfl, rfl⟩ hno
    · obtain ⟨rfl, rfl⟩ : y = '0' ∧ c = 'X' := by simpa using h
      cases hc
  · simp

/-- A lower-case letter that is not the `x` of a leading `0x` is seen (R83). -/
theorem hasLowerCase_of_lower {pre post : List Char} {c : Char} (hc : c.isLower = true)
    (hno : ¬(c = 'x' ∧ pre ∈ [['0'], ['#', '0']])) : hasLowerCase (pre ++ c :: post) = true := by
  have hmarker : c ≠ '#' := fun h => by
    subst h
    cases hc
  have hstrip := stripMarker_append_cons pre post hmarker
  have hmem : c ∈ stripHexMark (pre ++ c :: post) := by
    unfold stripHexMark
    rw [hstrip]
    split
    · next hmark =>
      refine mem_drop_hexMark hc (fun ⟨hx, hbody⟩ => hno ⟨hx, ?_⟩) hmark
      unfold stripMarker at hbody
      split at hbody <;> simp [hbody]
    · simp
  exact List.any_eq_true.mpr ⟨c, hmem, (isLowerLetter_eq_isLower c).trans hc⟩

theorem cls86_lowerCase {t : Token} (h : hasLowerCase t = true) : ∃ e, cls86 t = .error e := by
  cases hcls : cls86 t with
  | error e => exact ⟨e, rfl⟩
  | ok c => cases (refusedToken_lowerCase _ t h).symm.trans (refusedToken_of_cls86 hcls)

theorem cls51_lowerCase {t : Token} (h : hasLowerCase t = true) : ∃ e, cls51 t = .error e := by
  cases hcls : cls51 t with
  | error e => exact ⟨e, rfl⟩
  | ok c => cases (refusedToken_lowerCase _ t h).symm.trans (refusedToken_of_cls51 hcls)

/-! ### A refused operand refuses its record -/

theorem clsAll_refused {α : Type} {cls : Token → Except Refusal α} {ts : List Token} {t : Token} {e : Refusal}
    (ht : t ∈ ts) (h : cls t = .error e) : ∃ e', clsAll cls ts = .error e' := by
  cases hall : clsAll cls ts with
  | error e' => exact ⟨e', rfl⟩
  | ok cs =>
    obtain ⟨c, hc⟩ := exists_cls_of_clsAll hall t ht
    cases h.symm.trans hc

/-- DIV is the one mnemonic whose operands are never looked at (R246). -/
theorem resolve86_refused_operand {r : Record} {t : Token} {e : Refusal} (ht : t ∈ r.operands)
    (h : cls86 t = .error e) (hdiv : r.mnemonic ≠ tok "DIV") : ∃ e', resolve .core86 r = .error e' := by
  obtain ⟨e', hops⟩ := clsAll_refused ht h
  cases hm : mnemonics86.lookup r.mnemonic with
  | none => exact ⟨.unlistedMnemonic .core86 r.mnemonic, by simp [resolve, resolve86, hm]⟩
  | some m =>
    cases m with
    | div =>
      have hname : ∀ x ∈ mnemonics86, x.2 = .div → x.1 = tok "DIV" := by decide
      exact absurd (hname _ (mem_of_lookup hm) rfl) hdiv
    | _ => exact ⟨e', by simp [resolve, resolve86, hm, hops]⟩

theorem resolve51_refused_operand {r : Record} {t : Token} {e : Refusal} (ht : t ∈ r.operands)
    (h : cls51 t = .error e) : ∃ e', resolve .core51 r = .error e' := by
  cases hr : resolve .core51 r with
  | error e' => exact ⟨e', rfl⟩
  | ok i =>
    obtain ⟨m, ops, hops, -⟩ := resolve51_eq_ok hr
    obtain ⟨c, hc⟩ := exists_cls_of_clsAll hops t ht
    cases h.symm.trans hc

theorem assembleRecord_refused {a : Arch} {r : Record} {t : Token} {e : Refusal} (table : Table)
    (ht : t ∈ r.operands) (h : refusedToken a t = some e) : ∃ e', assembleRecord a table r = .error e' := by
  cases hfirst : firstRefused a r.operands with
  | some e' => exact ⟨e', by simp [assembleRecord, hfirst]⟩
  | none => cases h.symm.trans ((firstRefused_none a _).mp hfirst t ht)

/-- Settles O59, a lemma for each clause. -/
theorem refusedRecords : Obligations.RefusedRecords := by
  refine ⟨fun r s hm => executeRecord_refused (resolve86_unlisted hm) s,
    fun r s hm => executeRecord_refused (resolve51_unlisted hm) s,
    fun m hm t ht s => executeRecord_refused (resolve86_jump_name hm ht) s,
    fun m hm t ht s => executeRecord_refused (resolve51_jump_name hm ht) s,
    fun t src n o s ht hsrc => ⟨fun m hm => executeRecord_refused (resolve86_literal_dst ht hsrc hm) s,
      fun m hm => executeRecord_refused (resolve86_literal_unary ht hm) s⟩,
    fun t src n o s ht hsrc => ?_, fun t => cls86_unreachableName, ?_, fun pre post c hc hno => ?_,
    fun r t e s ht => ⟨fun h hdiv => ?_, fun h => ?_⟩, fun a table r t e => assembleRecord_refused table⟩
  · obtain ⟨marker, hliteral⟩ : ∃ marker, cls51 t = .ok (literal51 marker n) :=
      ht.elim (fun h => ⟨true, h⟩) fun h => ⟨false, h⟩
    exact ⟨fun m hm => executeRecord_refused (resolve51_literal_dst hliteral hsrc hm) s,
      fun m hm => executeRecord_refused (resolve51_literal_step hliteral hm) s⟩
  · rintro t (ht | ⟨hat, hno⟩)
    · exact cls51_unreachableName ht
    · exact cls51_refusedName hno (by simp [isRefusedName51, hat])
  · have hlow := hasLowerCase_of_lower (post := post) hc hno
    exact ⟨cls86_lowerCase hlow, cls51_lowerCase hlow, fun a => refusedToken_lowerCase a _ hlow⟩
  · obtain ⟨e', hr⟩ := resolve86_refused_operand ht h hdiv
    exact ⟨e', executeRecord_refused hr s⟩
  · obtain ⟨e', hr⟩ := resolve51_refused_operand ht h
    exact ⟨e', executeRecord_refused hr s⟩

end Sys2Proof.Machine
end

section
/-! PROOFS. Data movement, INC and DEC of core51 (R182 to R193): what completing with one register, DPTR or one byte of
memory written leaves in core51, and that every instruction but the four MOVX forms neither reads nor writes its
memory (R38). -/

namespace Sys2Proof.Machine

open Sys2Proof.Safety

/-! ### What a completed write leaves -/

/-- Reading an operand gives its value (R182). -/
theorem val_eq_sourceValue51 (c : Core51) (src : Src51) : c.val src = sourceValue51 c src := by
  cases src with
  | imm n => rfl
  | loc l => cases l <;> rfl

/-- Completing with an 8-bit register written: `write51` masks the value and recomputes P for A alone (R183). -/
theorem complete51_write_byteEffect (l : Loc51) (v : Nat) (s : State) :
    ByteEffect51 (complete51 s (s.core51.write s.params l v)) s l v := by
  obtain ⟨hinert, hC, hOV, hDPTR, -, hmem⟩ := write51_keeps s.core51 s.params l v
  obtain ⟨hvalue, hothers, hparity, hkept⟩ := write51_wrote s.core51 s.params l v
  exact ⟨_, rfl, ⟨rfl, rfl, rfl, rfl, rfl⟩, hinert, ⟨hC, hOV⟩, fun a => congrArg (readCell · (a % mem51Size)) hmem,
    hDPTR, hvalue, hothers, hparity, hkept⟩

/-- Completing with DPTR written. -/
theorem complete51_setDPTR_dptrEffect {v : Word} {n : Nat} (hv : v.toNat = n % 2 ^ 16) (s : State) :
    DptrEffect51 (complete51 s (s.core51.setDPTR v)) s n :=
  ⟨_, rfl, ⟨rfl, rfl, rfl, rfl, rfl⟩, inert51_refl _, rfl, fun _ => rfl, fun _ => rfl, hv⟩

/-- Completing with one byte of memory written; the canonical form of the memory makes the write readable. -/
theorem storeExternal51_storeEffect (address : Nat) {s : State} (hs : Invariant s) :
    StoreEffect51 (storeExternal51 address s) s address :=
  ⟨_, rfl, ⟨rfl, rfl, rfl, rfl, rfl⟩, inert51_refl _, rfl, fun _ => rfl, rfl,
    memRead51_memWrite_same hs.mem51 rfl _, fun _ ha => memRead51_memWrite_other hs.mem51 ha _⟩

/-! ### MOV -/

theorem move51_byteEffect (d : Loc51) (src : Src51) (s : State) :
    ByteEffect51 (move51 d src s) s d (sourceValue51 s.core51 src) := by
  rw [← val_eq_sourceValue51]
  exact complete51_write_byteEffect d _ s

/-- Settles O14: all forms are `move51`. -/
theorem mov51 : Obligations.Mov51 := fun s =>
  ⟨fun n => move51_byteEffect .A (.imm n.toNat) s, fun n => move51_byteEffect .B (.imm n.toNat) s,
    fun r n => move51_byteEffect (.R r) (.imm n.toNat) s, fun r => move51_byteEffect .A (.loc (.R r)) s,
    fun r => move51_byteEffect (.R r) (.loc .A) s, move51_byteEffect .A (.loc .B) s,
    move51_byteEffect .B (.loc .A) s, fun r => move51_byteEffect .B (.loc (.R r)) s,
    fun r => move51_byteEffect (.R r) (.loc .B) s, fun d src => move51_byteEffect d src s⟩

theorem moveDptr51_dptrEffect (n : Nat) (s : State) : DptrEffect51 (moveDptr51 n s) s n :=
  complete51_setDPTR_dptrEffect (BitVec.toNat_ofNat n 16) s

/-- Settles O15: both forms are `moveDptr51`. -/
theorem movDptr51 : Obligations.MovDptr51 := fun s =>
  ⟨fun n => moveDptr51_dptrEffect n.toNat s, fun n => moveDptr51_dptrEffect n s⟩

/-! ### INC and DEC -/

theorem increment51_byteEffect (l : Loc51) (s : State) :
    ByteEffect51 (increment51 l s) s l ((s.core51.get l).toNat + 1) :=
  complete51_write_byteEffect l _ s

/-- DEC adds 255, which modulo 256 takes one away (R191). -/
theorem decrement51_byteEffect (l : Loc51) (s : State) :
    ByteEffect51 (decrement51 l s) s l (256 + (s.core51.get l).toNat - 1) := by
  have hadd : 256 + (s.core51.get l).toNat - 1 = (s.core51.get l).toNat + 255 := by omega
  rw [hadd]
  exact complete51_write_byteEffect l _ s

/-- Settles O20: INC is `increment51` and DEC `decrement51`. -/
theorem incDec51 : Obligations.IncDec51 := fun s =>
  ⟨increment51_byteEffect .A s, increment51_byteEffect .B s, fun r => increment51_byteEffect (.R r) s,
    decrement51_byteEffect .A s, decrement51_byteEffect .B s, fun r => decrement51_byteEffect (.R r) s⟩

/-- Taking one away is adding 65535 (R193). -/
theorem word_sub_one_toNat (x : Word) : (x - 1).toNat = (65536 + x.toNat - 1) % 2 ^ 16 := by
  have hadd : 65536 + x.toNat - 1 = 65535 + x.toNat := by omega
  rw [hadd]
  exact BitVec.toNat_sub x 1

/-- Settles O21. -/
theorem incDecDptr51 : Obligations.IncDecDptr51 := fun s =>
  ⟨complete51_setDPTR_dptrEffect (BitVec.toNat_add s.core51.DPTR 1) s,
    complete51_setDPTR_dptrEffect (word_sub_one_toNat s.core51.DPTR) s⟩

/-! ### MOVX -/

theorem loadExternal51_byteEffect (address : Nat) (s : State) :
    ByteEffect51 (loadExternal51 address s) s .A (s.core51.memRead address).toNat :=
  complete51_write_byteEffect .A _ s

/-- Settles O17: the address is R0 or R1, zero-extended. -/
theorem movxLoadRi51 : Obligations.MovxLoadRi51 := fun s =>
  ⟨loadExternal51_byteEffect s.core51.R0.toNat s, loadExternal51_byteEffect s.core51.R1.toNat s⟩

/-- Settles O18. -/
theorem movxStoreDptr51 : Obligations.MovxStoreDptr51 := fun _ hs => storeExternal51_storeEffect _ hs

/-- Settles O19: the address is R0 or R1, zero-extended. -/
theorem movxStoreRi51 : Obligations.MovxStoreRi51 := fun s hs =>
  ⟨storeExternal51_storeEffect s.core51.R0.toNat hs, storeExternal51_storeEffect s.core51.R1.toNat hs⟩

/-! ### Only MOVX sees the memory of core51 -/

/-- core51 with another memory. -/
def Core51.withMem (c : Core51) (m : Memory) : Core51 := { c with mem := m }

/-- The state with another memory of core51. -/
def State.withMem51 (s : State) (m : Memory) : State := s.withCore51 (s.core51.withMem m)

@[simp] theorem State.withMem51_core51 (s : State) (m : Memory) : (s.withMem51 m).core51 = s.core51.withMem m := rfl

@[simp] theorem State.withMem51_params (s : State) (m : Memory) : (s.withMem51 m).params = s.params := rfl

@[simp] theorem Core51.withMem_get (c : Core51) (m : Memory) (l : Loc51) : (c.withMem m).get l = c.get l := rfl

@[simp] theorem Core51.withMem_val (c : Core51) (m : Memory) (src : Src51) : (c.withMem m).val src = c.val src := rfl

@[simp] theorem Core51.withMem_write (c : Core51) (m : Memory) (p : Config.Params) (l : Loc51) (v : Nat) :
    (c.withMem m).write p l v = (c.write p l v).withMem m := by
  cases l with
  | A => rfl
  | B => rfl
  | R r => cases r <;> rfl

/-- The operation does the same whatever core51's memory holds, and carries that memory along. -/
def MemoryBlind51 (f : State → Result) : Prop :=
  ∀ (s t : State) (m : Memory), f s = .next t → f (s.withMem51 m) = .next (t.withMem51 m)

theorem complete51_memoryBlind (body : State → Core51)
    (hbody : ∀ s m, body (s.withMem51 m) = (body s).withMem m) :
    MemoryBlind51 fun s => complete51 s (body s) := by
  intro s t m h
  rw [(complete51_next s t _).mp h]
  simp only [hbody]
  rfl

theorem move51_memoryBlind (d : Loc51) (src : Src51) : MemoryBlind51 (move51 d src) :=
  complete51_memoryBlind _ fun s m => by simp

theorem increment51_memoryBlind (l : Loc51) : MemoryBlind51 (increment51 l) :=
  complete51_memoryBlind _ fun s m => by simp

theorem decrement51_memoryBlind (l : Loc51) : MemoryBlind51 (decrement51 l) :=
  complete51_memoryBlind _ fun s m => by simp

theorem jump51_memoryBlind (n : Nat) : MemoryBlind51 fun s => jump51 s n := by
  intro s t m h
  rw [(jump51_next s t n).mp h]
  rfl

/-- The jumps of R222 to R225 look at A or at C. -/
theorem branch51_memoryBlind (taken : Byte → Bool → Bool) (n : Nat) :
    MemoryBlind51 fun s => branch51 (taken s.core51.A s.core51.flags.C) n s := by
  intro s t m h
  rw [branch51_next] at h ⊢
  obtain ⟨htaken, rfl⟩ | ⟨htaken, rfl⟩ := h
  · exact .inl ⟨htaken, rfl⟩
  · exact .inr ⟨htaken, rfl⟩

theorem execI51DivAB_memoryBlind : MemoryBlind51 execI51DivAB := by
  intro s t m h
  unfold execI51DivAB at h ⊢
  by_cases hB : s.core51.B = 0
  · have hB' : (s.withMem51 m).core51.B = 0 := hB
    rw [if_pos hB, divideByZero51_next] at h
    rw [if_pos hB', h]
    rfl
  · have hB' : (s.withMem51 m).core51.B ≠ 0 := hB
    rw [if_neg hB, complete51_next] at h
    rw [if_neg hB', h]
    rfl

/-- Only the two stores and the two loads tell memories of core51 apart. -/
theorem exec_memoryBlind51 {i : Instr} (hi : i.arch = .core51) (hstore : storesMemory i = false)
    (hdptr : i ≠ .i51MovxADptr) (hri : ∀ x, i ≠ .i51MovxARi x) : MemoryBlind51 (exec i) := by
  cases i with
  | i51MovxDptrA | i51MovxRiA => cases hstore
  | i51MovxADptr => exact absurd rfl hdptr
  | i51MovxARi x => exact absurd rfl (hri x)
  | i51MovAImm | i51MovBImm | i51MovRnImm | i51MovARn | i51MovRnA | i51MovAB | i51MovBA | i51MovBRn | i51MovRnB
  | i51MovForm => exact move51_memoryBlind _ _
  | i51IncA | i51IncB | i51IncRn => exact increment51_memoryBlind _
  | i51DecA | i51DecB | i51DecRn => exact decrement51_memoryBlind _
  | i51MovDptrImm | i51MovDptrLit | i51IncDptr | i51DecDptr | i51MulAB | i51RlcA | i51RrcA | i51ClrC | i51SetbC
  | i51CplC => exact complete51_memoryBlind _ fun _ _ => rfl
  | i51DivAB => exact execI51DivAB_memoryBlind
  | i51Sjmp | i51SjmpLit => exact jump51_memoryBlind _
  | i51Jz | i51JzLit => exact branch51_memoryBlind (fun a _ => decide (a = 0)) _
  | i51Jnz | i51JnzLit => exact branch51_memoryBlind (fun a _ => decide (a ≠ 0)) _
  | i51Jc | i51JcLit => exact branch51_memoryBlind (fun _ c => c) _
  | i51Jnc | i51JncLit => exact branch51_memoryBlind (fun _ c => !c) _
  | _ => cases hi

/-- What holds of core51's own instructions holds of core86's, which see core86 and the parameters alone (R45). -/
theorem exec_memoryBlind_of_not_movx {i : Instr} (hstore : storesMemory i = false) (hdptr : i ≠ .i51MovxADptr)
    (hri : ∀ x, i ≠ .i51MovxARi x) : MemoryBlind51 (exec i) := by
  cases hi : i.arch with
  | core51 => exact exec_memoryBlind51 hi hstore hdptr hri
  | core86 =>
    intro s t m h
    obtain ⟨c, st, -, hf⟩ := exec_acts86 hi s
    obtain rfl := Host.Outcome.next.inj ((hf s rfl rfl).symm.trans h)
    exact hf (s.withMem51 m) rfl rfl

/-- Settles O16: the load's effect, and that every instruction outside MOVX is blind to the memory. -/
theorem movxLoadDptr51 : Obligations.MovxLoadDptr51 :=
  ⟨fun s => loadExternal51_byteEffect s.core51.DPTR.toNat s,
    fun _ s t m hstore hdptr hri => exec_memoryBlind_of_not_movx hstore hdptr hri s t m⟩

end Sys2Proof.Machine
end

section
/-! PROOFS. Multiply, divide, rotates and the carry flag of core51 (R200 to R206). A rotation is read as a turn of the
ring of nine bits that C and A make up. -/

namespace Sys2Proof.Machine

open Sys2Proof.Safety

/-! ### What a completed write of the accumulators leaves -/

/-- Completing with A and P, B, C and OV written: the end of MUL AB, of DIV AB by a nonzero B and of both rotations. -/
theorem complete51_accumulators (a b : Byte) (carry overflow : Bool) (s : State) :
    ∃ t, complete51 s ((((s.core51.setA s.params a).setB b).setC carry).setOV overflow) = .next t ∧
      OnlyAccumulators51 s t ∧ t.core51.A = a ∧ t.core51.B = b ∧ t.core51.flags.C = carry ∧
      t.core51.flags.OV = overflow ∧ ParityOfA s t :=
  ⟨_, rfl, ⟨⟨rfl, rfl, rfl, rfl, rfl⟩, inert51_refl _, fun _ => rfl, rfl, fun r => by simp⟩,
    rfl, rfl, rfl, rfl, rfl⟩

/-- Completing with A and C alone: B and OV are written with what they hold. -/
theorem complete51_rotated (a : Byte) (carry : Bool) (s : State) :
    ∃ t, complete51 s ((s.core51.setA s.params a).setC carry) = .next t ∧ OnlyAccumulators51 s t ∧
      t.core51.A = a ∧ t.core51.B = s.core51.B ∧ t.core51.flags.C = carry ∧
      t.core51.flags.OV = s.core51.flags.OV ∧ ParityOfA s t :=
  complete51_accumulators a s.core51.B carry s.core51.flags.OV s

/-! ### MUL AB -/

/-- The high part of a product of two bytes fits in a byte. -/
theorem mulHigh_toNat (a b : Byte) :
    (BitVec.ofNat 8 ((a.toNat * b.toNat) >>> 8)).toNat = a.toNat * b.toNat / 256 := by
  have hprod : a.toNat * b.toNat < 256 * 256 := Nat.mul_lt_mul'' a.isLt b.isLt
  rw [BitVec.toNat_ofNat, Nat.shiftRight_eq_div_pow]
  omega

/-- Settles O22. -/
theorem mul51 : Obligations.Mul51 := fun s => by
  obtain ⟨t, ht, honly, hA, hB, hC, hOV, hP⟩ := complete51_accumulators
    (BitVec.ofNat 8 (s.core51.A.toNat * s.core51.B.toNat))
    (BitVec.ofNat 8 ((s.core51.A.toNat * s.core51.B.toNat) >>> 8)) false
    (decide ((s.core51.A.toNat * s.core51.B.toNat) >>> 8 ≠ 0)) s
  have hhigh : t.core51.B.toNat = s.core51.A.toNat * s.core51.B.toNat / 256 := by rw [hB, mulHigh_toNat]
  refine ⟨t, ht, honly, by rw [hA, BitVec.toNat_ofNat], hhigh, hC, ?_, hP⟩
  rw [hOV, decide_eq_true_iff, Nat.shiftRight_eq_div_pow, ← BitVec.toNat_ne_iff_ne, hhigh]
  rfl

/-! ### DIV AB -/

theorem quotient_toNat (a b : Byte) : (BitVec.ofNat 8 (a.toNat / b.toNat)).toNat = a.toNat / b.toNat :=
  (BitVec.toNat_ofNat _ 8).trans (Nat.mod_eq_of_lt ((Nat.div_le_self _ _).trans_lt a.isLt))

theorem remainder_toNat (a b : Byte) : (BitVec.ofNat 8 (a.toNat % b.toNat)).toNat = a.toNat % b.toNat :=
  (BitVec.toNat_ofNat _ 8).trans (Nat.mod_eq_of_lt ((Nat.mod_le _ _).trans_lt a.isLt))

/-- Settles O23, by the two branches of `execI51DivAB`. -/
theorem div51 : Obligations.Div51 := fun s => by
  refine ⟨fun hB0 => ?_, fun hB0 => ⟨_, if_pos hB0, ⟨rfl, rfl, rfl, rfl, rfl⟩, rfl⟩⟩
  obtain ⟨t, ht, honly, hA, hB, hC, hOV, hP⟩ := complete51_accumulators
    (BitVec.ofNat 8 (s.core51.A.toNat / s.core51.B.toNat))
    (BitVec.ofNat 8 (s.core51.A.toNat % s.core51.B.toNat)) (flagRule s.params.divC s.core51.flags.C)
    (flagRule s.params.divOV s.core51.flags.OV) s
  have hpos : 0 < s.core51.B.toNat := Nat.pos_of_ne_zero fun h => hB0 (BitVec.eq_of_toNat_eq h)
  refine ⟨t, (if_neg hB0).trans ht, honly, ?_, ?_, hP, ?_, ?_⟩
  · rw [hA, hB, quotient_toNat, remainder_toNat, Nat.div_add_mod']
  · rw [hB, remainder_toNat]
    exact Nat.mod_lt _ hpos
  · rw [hC]
    cases s.params.divC <;> rfl
  · rw [hOV]
    cases s.params.divOV <;> rfl

/-! ### Turning nine bits by one place -/

theorem rotateLeft_one_toNat (x : BitVec 9) : (x.rotateLeft 1).toNat = 2 * (x.toNat % 256) + x.toNat / 256 := by
  have hx := x.isLt
  have hlow : x.toNat <<< 1 % 512 = (x.toNat % 256) <<< 1 := by omega
  calc (x.rotateLeft 1).toNat
    _ = x.toNat <<< 1 % 512 ||| x.toNat >>> 8 := BitVec.toNat_rotateLeft
    _ = (x.toNat % 256) <<< 1 + x.toNat >>> 8 := by rw [hlow, Nat.shiftLeft_add_eq_or_of_lt (by omega)]
    _ = 2 * (x.toNat % 256) + x.toNat / 256 := by omega

theorem rotateRight_one_toNat (x : BitVec 9) : (x.rotateRight 1).toNat = x.toNat / 2 + 256 * (x.toNat % 2) := by
  have hx := x.isLt
  have hlow : x.toNat <<< 8 % 512 = (x.toNat % 2) <<< 8 := by omega
  calc (x.rotateRight 1).toNat
    _ = x.toNat >>> 1 ||| x.toNat <<< 8 % 512 := BitVec.toNat_rotateRight
    _ = (x.toNat % 2) <<< 8 + x.toNat >>> 1 := by
      rw [hlow, Nat.lor_comm, Nat.shiftLeft_add_eq_or_of_lt (by omega)]
    _ = x.toNat / 2 + 256 * (x.toNat % 2) := by omega

/-- Turning nine bits one place left. -/
def turnLeft (x : BitVec 9) : BitVec 9 := x.rotateLeft 1

/-- Turning nine bits one place right. -/
def turnRight (x : BitVec 9) : BitVec 9 := x.rotateRight 1

theorem turnRight_turnLeft : Function.LeftInverse turnRight turnLeft := fun x => BitVec.eq_of_toNat_eq <| by
  rw [turnRight, turnLeft, rotateRight_one_toNat, rotateLeft_one_toNat]
  omega

/-- Every bit moves one place up, the top one to the bottom. -/
theorem getLsbD_turnLeft (x : BitVec 9) {i : Nat} (hi : i < 9) :
    (turnLeft x).getLsbD ((i + 1) % 9) = x.getLsbD i := by
  rw [turnLeft, BitVec.getLsbD_rotateLeft]
  obtain hlt | rfl := Nat.lt_succ_iff_lt_or_eq.mp hi
  · have hup : i + 1 < 9 := Nat.succ_lt_succ hlt
    rw [Nat.mod_eq_of_lt hup]
    simp [hi, hup]
  · rfl

theorem getLsbD_turnLeft_iterate (x : BitVec 9) {i : Nat} (hi : i < 9) (n : Nat) :
    (turnLeft^[n] x).getLsbD ((i + n) % 9) = x.getLsbD i := by
  induction n with
  | zero => rw [Nat.add_zero, Nat.mod_eq_of_lt hi, Function.iterate_zero_apply]
  | succ n ih =>
    have hnext : ((i + n) % 9 + 1) % 9 = (i + (n + 1)) % 9 := by omega
    rw [Function.iterate_succ_apply', ← hnext, getLsbD_turnLeft _ (Nat.mod_lt _ (by decide)), ih]

/-- Nine turns bring every bit back to its place. -/
theorem turnLeft_nine (x : BitVec 9) : turnLeft^[9] x = x := BitVec.eq_of_getLsbD_eq fun i hi => by
  rw [← getLsbD_turnLeft_iterate x hi 9, Nat.add_mod_right, Nat.mod_eq_of_lt hi]

/-- Nine turns right undo nine turns left, which change nothing. -/
theorem turnRight_nine (x : BitVec 9) : turnRight^[9] x = x := by
  have hundo := turnRight_turnLeft.iterate 9 x
  rwa [turnLeft_nine] at hundo

/-! ### RLC A and RRC A turn the ring of C and A -/

/-- The nine bits a rotation turns: C above A (R202, R203). -/
def Core51.ring (c : Core51) : BitVec 9 := BitVec.cons c.flags.C c.A

theorem ring_toNat (c : Core51) : c.ring.toNat = 256 * (if c.flags.C = true then 1 else 0) + c.A.toNat := by
  rw [Core51.ring, BitVec.toNat_cons', Nat.shiftLeft_eq, Nat.mul_comm]
  cases c.flags.C <;> rfl

theorem ring_inj {c d : Core51} (h : c.ring = d.ring) : c.A = d.A ∧ c.flags.C = d.flags.C :=
  ⟨by simpa [Core51.ring] using congrArg (BitVec.setWidth 8) h, by simpa [Core51.ring] using congrArg BitVec.msb h⟩

theorem rlcValue_toNat (a : Byte) (c : Bool) :
    (BitVec.ofNat 8 ((a.toNat <<< 1) ||| flagBit c)).toNat = (2 * a.toNat + flagBit c) % 256 := by
  have hc : flagBit c < 2 ^ 1 := by cases c <;> decide
  rw [← Nat.shiftLeft_add_eq_or_of_lt hc, BitVec.toNat_ofNat, Nat.shiftLeft_eq, Nat.mul_comm]

theorem rrcValue_toNat (a : Byte) (c : Bool) :
    (BitVec.ofNat 8 ((a.toNat >>> 1) ||| (flagBit c <<< 7))).toNat = a.toNat / 2 + 128 * flagBit c := by
  have hc : flagBit c < 2 := by cases c <;> decide
  have ha := a.isLt
  rw [Nat.lor_comm, ← Nat.shiftLeft_add_eq_or_of_lt (by omega), BitVec.toNat_ofNat]
  omega

/-- The top bit of a byte. -/
theorem testBit_seven_iff (a : Byte) : a.toNat.testBit 7 = true ↔ 128 ≤ a.toNat := by
  have ha := a.isLt
  rw [Nat.testBit_eq_decide_div_mod_eq, decide_eq_true_iff]
  omega

theorem testBit_zero_iff (a : Byte) : a.toNat.testBit 0 = true ↔ a.toNat % 2 = 1 := by
  rw [Nat.testBit_zero, decide_eq_true_iff]

theorem rlcA_effect (s : State) : ∃ t, exec .i51RlcA s = .next t ∧ OnlyAccumulators51 s t ∧
    t.core51.A.toNat = (2 * s.core51.A.toNat + (if s.core51.flags.C = true then 1 else 0)) % 256 ∧
    (t.core51.flags.C = true ↔ 128 ≤ s.core51.A.toNat) ∧ t.core51.B = s.core51.B ∧
    t.core51.flags.OV = s.core51.flags.OV ∧ ParityOfA s t := by
  obtain ⟨t, ht, honly, hA, hB, hC, hOV, hP⟩ := complete51_rotated
    (BitVec.ofNat 8 ((s.core51.A.toNat <<< 1) ||| flagBit s.core51.flags.C)) (s.core51.A.toNat.testBit 7) s
  exact ⟨t, ht, honly, hA ▸ rlcValue_toNat _ _, hC ▸ testBit_seven_iff _, hB, hOV, hP⟩

theorem rrcA_effect (s : State) : ∃ t, exec .i51RrcA s = .next t ∧ OnlyAccumulators51 s t ∧
    t.core51.A.toNat = s.core51.A.toNat / 2 + (if s.core51.flags.C = true then 128 else 0) ∧
    (t.core51.flags.C = true ↔ s.core51.A.toNat % 2 = 1) ∧ t.core51.B = s.core51.B ∧
    t.core51.flags.OV = s.core51.flags.OV ∧ ParityOfA s t := by
  obtain ⟨t, ht, honly, hA, hB, hC, hOV, hP⟩ := complete51_rotated
    (BitVec.ofNat 8 ((s.core51.A.toNat >>> 1) ||| (flagBit s.core51.flags.C <<< 7))) (s.core51.A.toNat.testBit 0) s
  refine ⟨t, ht, honly, ?_, hC ▸ testBit_zero_iff _, hB, hOV, hP⟩
  rw [hA, rrcValue_toNat, flagBit, mul_ite, mul_one, mul_zero]

theorem rlcA_turnLeft (s : State) : ∃ t, exec .i51RlcA s = .next t ∧ t.core51.ring = turnLeft s.core51.ring := by
  obtain ⟨t, ht, -, hA, hC, -⟩ := rlcA_effect s
  refine ⟨t, ht, BitVec.eq_of_toNat_eq ?_⟩
  have ha := s.core51.A.isLt
  rw [turnLeft, rotateLeft_one_toNat, ring_toNat, ring_toNat, hA]
  simp only [hC]
  split_ifs <;> omega

theorem rrcA_turnRight (s : State) : ∃ t, exec .i51RrcA s = .next t ∧ t.core51.ring = turnRight s.core51.ring := by
  obtain ⟨t, ht, -, hA, hC, -⟩ := rrcA_effect s
  refine ⟨t, ht, BitVec.eq_of_toNat_eq ?_⟩
  have ha := s.core51.A.isLt
  rw [turnRight, rotateRight_one_toNat, ring_toNat, ring_toNat, hA]
  simp only [hC]
  split_ifs <;> omega

/-! ### Rotations one after another -/

theorem execAll_cons {i : Instr} {s t : State} (h : exec i s = .next t) (rest : List Instr) :
    execAll (i :: rest) s = execAll rest t := by
  simp only [execAll, h]

/-- Repeating an instruction that acts on one value of the state as `move` iterates `move`. -/
theorem execAll_replicate {α : Type} {i : Instr} {value : State → α} {move : α → α}
    (h : ∀ s, ∃ t, exec i s = .next t ∧ value t = move (value s)) (n : Nat) :
    ∀ s, ∃ t, execAll (List.replicate n i) s = .next t ∧ value t = move^[n] (value s) := by
  induction n with
  | zero => exact fun s => ⟨s, rfl, rfl⟩
  | succ n ih =>
    intro s
    obtain ⟨u, hu, hmove⟩ := h s
    obtain ⟨t, ht, hiterate⟩ := ih u
    exact ⟨t, (execAll_cons hu _).trans ht, by rw [hiterate, hmove, Function.iterate_succ_apply]⟩

/-- Settles O24: RLC A turns the ring left, and nine turns restore it. -/
theorem rlc51 : Obligations.Rlc51 := by
  refine ⟨rlcA_effect, fun s => ?_⟩
  obtain ⟨t, ht, hring⟩ := execAll_replicate rlcA_turnLeft 9 s
  exact ⟨t, ht, ring_inj (hring.trans (turnLeft_nine _))⟩

/-- Settles O25: RRC A turns the ring right, which undoes RLC A; nine turns restore it. -/
theorem rrc51 : Obligations.Rrc51 := by
  refine ⟨rrcA_effect, fun s => ⟨?_, ?_⟩⟩
  · obtain ⟨u, hu, hleft⟩ := rlcA_turnLeft s
    obtain ⟨t, ht, hright⟩ := rrcA_turnRight u
    refine ⟨t, (execAll_cons hu _).trans (execAll_cons ht _), ring_inj ?_⟩
    rw [hright, hleft, turnRight_turnLeft]
  · obtain ⟨t, ht, hring⟩ := execAll_replicate rrcA_turnRight 9 s
    exact ⟨t, ht, ring_inj (hring.trans (turnRight_nine _))⟩

/-! ### The carry flag -/

theorem complete51_setC_carryEffect (c : Bool) (s : State) :
    CarryEffect51 (complete51 s (s.core51.setC c)) s c :=
  ⟨_, rfl, ⟨rfl, rfl, rfl, rfl, rfl⟩, rfl, rfl⟩

/-- Settles O26: C alone is written, and CLR and CPL take no operand but C (R194). -/
theorem carry51 : Obligations.Carry51 :=
  ⟨fun s => ⟨complete51_setC_carryEffect false s, complete51_setC_carryEffect true s,
      complete51_setC_carryEffect (!s.core51.flags.C) s⟩,
    fun s => ⟨executeRecord_refused (resolve51_inadmissible rfl rfl rfl) s,
      executeRecord_refused (resolve51_inadmissible rfl rfl rfl) s,
      executeRecord_refused (resolve51_inadmissible rfl rfl rfl) s⟩⟩

end Sys2Proof.Machine
end

section
/-! PROOFS. Jumps of core51 (R220 to R225): every one is `branch51` of its condition, and SJMP that of `true`. -/

namespace Sys2Proof.Machine

open Sys2Proof.Safety

/-- Taken, `setPC` masks the target (R220); not taken, `complete51` advances PC by `IP_STEP` (R229). -/
theorem branch51_jumpEffect {taken : Bool} {p : Prop} (hp : taken = true ↔ p) (n : Nat) (s : State) :
    JumpEffect51 (branch51 taken n s) s p n := by
  cases taken with
  | true =>
    exact ⟨_, rfl, ⟨rfl, rfl, rfl, rfl, rfl⟩, rfl, fun _ => setPC_toNat _ _ _, fun hno => absurd (hp.mp rfl) hno⟩
  | false =>
    have hno : ¬p := fun h => Bool.false_ne_true (hp.mpr h)
    exact ⟨_, rfl, ⟨rfl, rfl, rfl, rfl, rfl⟩, rfl, fun h => absurd h hno, fun _ => advancePC_toNat _ _⟩

/-- Settles O27: SJMP is the branch on `true`, JZ and JNZ those on A, JC and JNC those on C. -/
theorem jumps51 : Obligations.Jumps51 := fun s => by
  have always (n : Nat) : JumpEffect51 (branch51 true n s) s True n :=
    branch51_jumpEffect (iff_of_true rfl trivial) n s
  have onZero (n : Nat) : JumpEffect51 (branch51 (decide (s.core51.A = 0)) n s) s (s.core51.A = 0) n :=
    branch51_jumpEffect decide_eq_true_iff n s
  have onNonzero (n : Nat) : JumpEffect51 (branch51 (decide (s.core51.A ≠ 0)) n s) s (s.core51.A ≠ 0) n :=
    branch51_jumpEffect decide_eq_true_iff n s
  have onSet (n : Nat) : JumpEffect51 (branch51 s.core51.flags.C n s) s (s.core51.flags.C = true) n :=
    branch51_jumpEffect Iff.rfl n s
  have onClear (n : Nat) : JumpEffect51 (branch51 (!s.core51.flags.C) n s) s (s.core51.flags.C = false) n :=
    branch51_jumpEffect (Bool.not_eq_true' _).to_iff n s
  exact ⟨fun t => always t.toNat, always, fun t => onZero t.toNat, onZero, fun t => onNonzero t.toNat, onNonzero,
    fun t => onSet t.toNat, onSet, fun t => onClear t.toNat, onClear⟩

end Sys2Proof.Machine
end

section
/-! PROOFS. Nothing stops the machine (R240 to R242): every instruction completes with its own status, and a listing
whose records have a meaning is stepped through for ever. -/

namespace Sys2Proof.Machine

open Sys2Proof.Safety

/-! ### The status of an instruction -/

/-- Only the two divisions report anything but `OK` (R166, R201). -/
theorem reportedStatus_eq_ok {i : Instr} (h86 : i ≠ .x86Div) (h51 : i ≠ .i51DivAB) (s : State) :
    reportedStatus i s = .ok := by
  unfold reportedStatus
  split
  · exact absurd rfl h86
  · exact absurd rfl h51
  · rfl

theorem exec_reports86 {i : Instr} {s t : State} (hi : i.arch = .core86) (h : exec i s = .next t) :
    ∃ c, t = (s.withCore86 c).report (reportedStatus i s) := by
  have h51 : i ≠ .i51DivAB := fun heq => absurd hi (heq ▸ nofun)
  have control := exec_control86 hi
  generalize exec i = f at control h
  cases control with
  | jump taken n _ h86 =>
    rw [reportedStatus_eq_ok h86 h51]
    obtain ⟨-, rfl⟩ | ⟨-, rfl⟩ := (branch86_next _ _ _ _).mp h <;> exact ⟨_, rfl⟩
  | complete body _ _ h86 =>
    rw [reportedStatus_eq_ok h86 h51]
    exact ⟨_, (complete86_next _ _ _).mp h⟩
  | unknown _ hdiv =>
    subst hdiv
    exact ⟨s.core86, (unknown86_next _ _).mp h⟩

/-- DIV AB tells its two ends apart by B (R201). -/
theorem execI51DivAB_reports {s t : State} (h : execI51DivAB s = .next t) :
    ∃ c, t = (s.withCore51 c).report (reportedStatus .i51DivAB s) := by
  unfold execI51DivAB at h
  split at h
  · next hB => exact ⟨_, by rw [reportedStatus, if_pos hB, (divideByZero51_next _ _).mp h]⟩
  · next hB => exact ⟨_, by rw [reportedStatus, if_neg hB, (complete51_next _ _ _).mp h]⟩

theorem exec_reports51 {i : Instr} {s t : State} (hi : i.arch = .core51) (h : exec i s = .next t) :
    ∃ c, t = (s.withCore51 c).report (reportedStatus i s) := by
  have h86 : i ≠ .x86Div := fun heq => absurd hi (heq ▸ nofun)
  have control := exec_control51 hi
  generalize exec i = f at control h
  cases control with
  | jump taken n _ h51 =>
    rw [reportedStatus_eq_ok h86 h51]
    obtain ⟨-, rfl⟩ | ⟨-, rfl⟩ := (branch51_next _ _ _ _).mp h <;> exact ⟨_, rfl⟩
  | complete body _ _ h51 =>
    rw [reportedStatus_eq_ok h86 h51]
    exact ⟨_, (complete51_next _ _ _).mp h⟩
  | divide _ hdiv =>
    subst hdiv
    exact execI51DivAB_reports h

/-- Settles O29: an instruction replaces its own core and reports its status, and nothing else. (The obligation's own
name in lower case is the function it speaks of.) -/
theorem exec_reportedStatus : Obligations.ReportedStatus := by
  intro i s t h
  cases hi : i.arch with
  | core86 =>
    obtain ⟨c, rfl⟩ := exec_reports86 hi h
    rfl
  | core51 =>
    obtain ⟨c, rfl⟩ := exec_reports51 hi h
    rfl

/-! ### Every instruction completes -/

theorem exec_completes (i : Instr) (s : State) : ∃ t, exec i s = .next t := by
  cases hi : i.arch with
  | core86 =>
    obtain ⟨c, st, -, hexec⟩ := exec_acts86 hi s
    exact ⟨_, hexec s rfl rfl⟩
  | core51 =>
    obtain ⟨c, st, -, hexec⟩ := exec_acts51 hi s
    exact ⟨_, hexec s rfl rfl⟩

theorem executeRecord_completes {a : Arch} {r : Record} {i : Instr} (hr : resolve a r = .ok i) (s : State) :
    ∃ t, executeRecord a r s = .next t := by
  obtain ⟨t, ht⟩ := exec_completes i s
  exact ⟨t, executeRecord_next.mpr ⟨i, hr, ht⟩⟩

/-- Settles O30: each instruction is a shared operation of its core, and each of those completes. -/
theorem neverStops : Obligations.NeverStops :=
  ⟨exec_completes, fun _ _ _ s hr => executeRecord_completes hr s⟩

/-! ### Stepping through an admitted listing -/

/-- A step changes neither the listing nor the selection (R267). -/
theorem step_keeps_listing {s t : State} (h : step s = .next t) :
    t.session.listing = s.session.listing ∧ t.session.selected = s.session.selected := by
  obtain rfl | ⟨r, i, u, -, -, -, hi, rfl⟩ := step_next h
  · exact ⟨rfl, rfl⟩
  · obtain ⟨st, hsession⟩ := exec_session hi
    simp [hsession]

/-- Admission is a fact about the listing and the selected core alone, so a step keeps it. -/
theorem step_keeps_admitted {s t : State} (hs : ListingAdmitted s) (h : step s = .next t) : ListingAdmitted t := by
  obtain ⟨hlisting, hselected⟩ := step_keeps_listing h
  rw [ListingAdmitted, hlisting, hselected]
  exact hs

/-- The listing is exhausted, core86 is halted, or the entry at the cursor is executed (R267). -/
theorem step_completes {s : State} (hs : ListingAdmitted s) : ∃ t, step s = .next t := by
  unfold step stepSession
  split
  · exact ⟨s, rfl⟩
  · next r hentry =>
    split
    · exact ⟨s, rfl⟩
    · obtain ⟨i, hr⟩ := hs r (List.mem_of_getElem? hentry)
      obtain ⟨t, ht⟩ := executeRecord_completes hr s
      exact ⟨advanceCursor t, by rw [ht]⟩

theorem run_succ {s t : State} (h : step s = .next t) (k : Nat) :
    Host.Core.run Sys2Proof.core (k + 1) s = Host.Core.run Sys2Proof.core k t := by
  have hcore : Sys2Proof.core.step s = .next t := h
  simp only [Host.Core.run, hcore]

/-- Where a property lets a step complete and holds again after it, the machine runs for any number of steps. -/
theorem runsFor_of_step {p : State → Prop} (hstep : ∀ s, p s → ∃ t, step s = .next t ∧ p t) (k : Nat) :
    ∀ s, p s → RunsFor k s := by
  induction k with
  | zero => exact fun s _ => ⟨s, rfl⟩
  | succ k ih =>
    intro s hs
    obtain ⟨t, ht, hp⟩ := hstep s hs
    obtain ⟨u, hu⟩ := ih t hp
    exact ⟨u, (run_succ ht k).trans hu⟩

theorem step_admitted (s : State) (hs : ListingAdmitted s) : ∃ t, step s = .next t ∧ ListingAdmitted t := by
  obtain ⟨t, ht⟩ := step_completes hs
  exact ⟨t, ht, step_keeps_admitted hs ht⟩

/-- Settles O46: admission is what every step keeps. -/
theorem admittedListingNeverStops : Obligations.AdmittedListingNeverStops :=
  ⟨step_admitted, fun s k => runsFor_of_step step_admitted k s⟩

end Sys2Proof.Machine
end

section
/-! PROOFS. Reset, the loads and the host's memory transactions (R66, R260 to R264, R276): what each leaves in its own
core, and that each keeps the invariant. -/

namespace Sys2Proof.Machine

open Sys2Proof.Safety

/-! ### The invariant under the transactions of the block -/

/-- Of core86 the invariant asks for a memory in canonical form. -/
theorem withCore86_keeps_invariant {s : State} {c : Core86} (h : Invariant s)
    (hc : Memory.wf mem86Size c.mem = true) : Invariant (s.withCore86 c) :=
  ⟨hc, h.mem51, h.resetMem86, h.resetMem51, h.parity, h.pcWidth⟩

/-- Of core51 it asks for core51's part. -/
theorem withCore51_keeps_invariant {s : State} {c : Core51} (h : Invariant s) (hc : Sound51 s.params c) :
    Invariant (s.withCore51 c) :=
  ⟨h.mem86, hc.mem, h.resetMem86, h.resetMem51, hc.parity, hc.pcWidth⟩

theorem withCore51_keeps_invariant_of_keeps {s : State} {c : Core51} (h : Invariant s)
    (hc : Keeps51 s.params s.core51 c) : Invariant (s.withCore51 c) :=
  withCore51_keeps_invariant h (hc.sound ⟨h.mem51, h.parity, h.pcWidth⟩)

/-- Whatever the record holds, reset leaves P the parity of A and PC within its width (R34, R38, R48). -/
theorem resetImage51_sound {p : Config.Params} {r : Core51} (h : Memory.wf mem51Size r.mem = true) :
    Sound51 p (resetImage51 p r) :=
  ⟨h, rfl, setPC_pcWidth p _ _⟩

theorem Keeps51.loadFrom {p : Config.Params} {c d : Core51} (h : Keeps51 p c d) (base : Nat) (bytes : List Byte) :
    Keeps51 p c (d.loadFrom base bytes) := by
  induction bytes generalizing base d with
  | nil => exact h
  | cons b rest ih => exact ih (h.memWrite base b) (base + 1)

theorem resetCore_keeps_invariant (a : Arch) {s : State} (h : Invariant s) : Invariant (resetCore a s) := by
  cases a with
  | core86 => exact withCore86_keeps_invariant h h.resetMem86
  | core51 => exact withCore51_keeps_invariant h (resetImage51_sound h.resetMem51)

theorem loadProgram_keeps_invariant (a : Arch) (bytes : List Byte) {s : State} (h : Invariant s) :
    Invariant (loadProgram a bytes s) := by
  cases a with
  | core86 => exact withCore86_keeps_invariant h (loadFrom86_keeps_wf bytes 0 s.core86 h.mem86)
  | core51 => exact withCore51_keeps_invariant_of_keeps h (((Keeps51.refl _ _).loadFrom 0 bytes).setPC 0)

theorem loadExternalMemory_keeps_invariant (address : Nat) (values : List Byte) {s : State} (h : Invariant s) :
    Invariant (loadExternalMemory address values s) :=
  withCore51_keeps_invariant_of_keeps h ((Keeps51.refl _ _).loadFrom address values)

theorem writeMemory_keeps_invariant (a : Arch) (address value : Nat) {s : State} (h : Invariant s) :
    Invariant (writeMemory a address value s) := by
  cases a with
  | core86 => exact withCore86_keeps_invariant h (memWrite86_keeps_wf h.mem86 address _)
  | core51 => exact withCore51_keeps_invariant_of_keeps h ((Keeps51.refl _ _).memWrite address _)

/-- Settles O36: by the kind of transaction. -/
theorem transactionsKeepInvariant : Obligations.TransactionsKeepInvariant := by
  intro x s t hs h
  cases x with
  | reset a =>
    obtain rfl := Host.Outcome.next.inj h
    exact resetCore_keeps_invariant a hs
  | loadProgram a bytes =>
    obtain rfl := Host.Outcome.next.inj h
    exact loadProgram_keeps_invariant a bytes hs
  | loadExternalMemory address values =>
    obtain rfl := Host.Outcome.next.inj h
    exact loadExternalMemory_keeps_invariant address values hs
  | writeMemory a address value =>
    obtain rfl := Host.Outcome.next.inj h
    exact writeMemory_keeps_invariant a address value hs
  | execute a r =>
    obtain ⟨i, -, hi⟩ := executeRecord_next.mp h
    exact exec_keeps_invariant hs hi

/-! ### One byte -/

theorem memRead86_memWrite {c : Core86} (h : Memory.wf mem86Size c.mem = true) (a b : Nat) (v : Byte) :
    (c.memWrite a v).memRead b = if b % mem86Size = a % mem86Size then v else c.memRead b := by
  split
  · next hab => exact memRead86_memWrite_same h hab v
  · next hab => exact memRead86_memWrite_other h hab v

theorem memRead51_memWrite {c : Core51} (h : Memory.wf mem51Size c.mem = true) (a b : Nat) (v : Byte) :
    (c.memWrite a v).memRead b = if b % mem51Size = a % mem51Size then v else c.memRead b := by
  split
  · next hab => exact memRead51_memWrite_same h hab v
  · next hab => exact memRead51_memWrite_other h hab v

theorem readMemory_writeMemory (a : Arch) (x y v : Nat) {s : State} (h : Invariant s) :
    readMemory a y (writeMemory a x v s) =
      if y % addressSpace a = x % addressSpace a then BitVec.ofNat 8 v else readMemory a y s := by
  cases a with
  | core86 => exact memRead86_memWrite h.mem86 x y _
  | core51 => exact memRead51_memWrite h.mem51 x y _

/-- An address wraps (R61). -/
theorem readMemory_add_addressSpace (a : Arch) (y : Nat) (s : State) :
    readMemory a (y + addressSpace a) s = readMemory a y s := by
  cases a with
  | core86 => exact congrArg (readCell s.core86.mem) (Nat.add_mod_right y mem86Size)
  | core51 => exact congrArg (readCell s.core51.mem) (Nat.add_mod_right y mem51Size)

/-- Settles O39. -/
theorem hostMemory : Obligations.HostMemory := by
  intro a s x y v hs
  refine ⟨readMemory_writeMemory a x y v hs, readMemory_add_addressSpace a y s, ?_⟩
  cases a with
  | core86 => exact ⟨rfl, fun _ => rfl, nofun⟩
  | core51 => exact ⟨rfl, nofun, fun _ => rfl⟩

/-! ### A copy of bytes -/

/-- The bytes are written in order, so a later byte at the same wrapped address covers the first one (R66). -/
theorem loadedByte_cons_getD (size base x : Nat) (b old : Byte) (rest : List Byte) :
    (loadedByte size base x (b :: rest)).getD old =
      (loadedByte size (base + 1) x rest).getD (if x % size = base % size then b else old) := by
  rw [loadedByte]
  cases loadedByte size (base + 1) x rest with
  | some later => rfl
  | none =>
    by_cases hx : x % size = base % size
    · simp [hx]
    · simp [hx, Ne.symm hx]

theorem memRead86_loadFrom (bytes : List Byte) (base x : Nat) {c : Core86}
    (h : Memory.wf mem86Size c.mem = true) :
    (c.loadFrom base bytes).memRead x = (loadedByte mem86Size base x bytes).getD (c.memRead x) := by
  induction bytes generalizing base c with
  | nil => rfl
  | cons b rest ih =>
    rw [Core86.loadFrom, ih (base + 1) (memWrite86_keeps_wf h base b), memRead86_memWrite h, loadedByte_cons_getD]

theorem memRead51_loadFrom (bytes : List Byte) (base x : Nat) {c : Core51}
    (h : Memory.wf mem51Size c.mem = true) :
    (c.loadFrom base bytes).memRead x = (loadedByte mem51Size base x bytes).getD (c.memRead x) := by
  induction bytes generalizing base c with
  | nil => rfl
  | cons b rest ih =>
    rw [Core51.loadFrom, ih (base + 1) (memWrite51_keeps_wf h base b), memRead51_memWrite h, loadedByte_cons_getD]

theorem readMemory_loadProgram (a : Arch) (bytes : List Byte) (x : Nat) {s : State} (h : Invariant s) :
    readMemory a x (loadProgram a bytes s) = (loadedByte (addressSpace a) 0 x bytes).getD (readMemory a x s) := by
  cases a with
  | core86 => exact memRead86_loadFrom bytes 0 x h.mem86
  | core51 => exact memRead51_loadFrom bytes 0 x h.mem51

theorem loadProgram86_frame (bytes : List Byte) (s : State) : loadProgram .core86 bytes s =
    { s with core86 := { s.core86 with IP := 0, mem := (loadProgram .core86 bytes s).core86.mem } } := by
  rw [loadProgram, loadFrom86_only_mem]
  rfl

theorem loadProgram51_frame (bytes : List Byte) (s : State) : loadProgram .core51 bytes s =
    { s with core51 := { s.core51 with PC := 0, mem := (loadProgram .core51 bytes s).core51.mem } } := by
  have hpc : BitVec.ofNat 16 (0 % 2 ^ pcBits s.params.pcWidth) = 0 := by rw [Nat.zero_mod]; rfl
  rw [loadProgram, loadFrom51_only_mem, Core51.setPC, hpc]
  rfl

theorem loadExternalMemory_frame (base : Nat) (values : List Byte) (s : State) : loadExternalMemory base values s =
    { s with core51 := { s.core51 with mem := (loadExternalMemory base values s).core51.mem } } := by
  rw [loadExternalMemory, loadFrom51_only_mem]
  rfl

/-- Settles O40. -/
theorem loadTransactions : Obligations.LoadTransactions :=
  ⟨fun a bytes _ x => readMemory_loadProgram a bytes x,
    fun base values _ x hs => memRead51_loadFrom values base x hs.mem51,
    loadProgram86_frame, loadProgram51_frame, loadExternalMemory_frame⟩

/-! ### Reset -/

/-- PC is the record's, held to its width (R34). -/
theorem resetImage51_PC_toNat (p : Config.Params) (r : Core51) :
    (resetImage51 p r).PC.toNat = r.PC.toNat % 2 ^ pcBits p.pcWidth := by
  have hle : r.PC.toNat % 2 ^ pcBits p.pcWidth ≤ r.PC.toNat := Nat.mod_le _ _
  rw [resetImage51, Core51.setPC_PC, BitVec.toNat_ofNat]
  exact Nat.mod_eq_of_lt (hle.trans_lt r.PC.isLt)

/-- The host's reset is the block's, which leaves the session, and a cursor of 0 (R261, R267). -/
theorem hostReset_eq (a : Arch) (s : State) :
    hostReset a s = { resetCore a s with session := { s.session with cursor := 0 } } := by
  cases a <;> rfl

/-- Settles O38. The default records hold no cell of memory, and an unlisted cell reads 0 (R48). -/
theorem resetEffect : Obligations.ResetEffect :=
  ⟨fun _ => ⟨rfl, rfl⟩, fun s => ⟨rfl, rfl, resetImage51_PC_toNat s.params s.resetRecord51⟩,
    hostReset_eq, rfl, fun _ => rfl, rfl, fun _ => rfl, rfl, rfl⟩

end Sys2Proof.Machine
end

section
/-! PROOFS. Steps and runs of a listing (R266 to R269, R274): a run is stepping with the cursor left where it stands,
and the execution of the listing's instructions one after another, up to the first HLT of core86. -/

namespace Sys2Proof.Machine

open Sys2Proof.Safety

/-! ### One step -/

theorem haltCheck_eq_true {a : Arch} {s : State} : haltCheck a s = true ↔ a = .core86 ∧ s.core86.halted = true := by
  cases a <;> simp [haltCheck]

theorem haltCheck_eq_false {a : Arch} {s : State} :
    haltCheck a s = false ↔ ¬(a = .core86 ∧ s.core86.halted = true) := by
  rw [← haltCheck_eq_true, Bool.not_eq_true]

theorem step_exhausted {s : State} (h : s.session.listing[s.session.cursor]? = none) : step s = .next s := by
  simp only [step, stepSession, h]

section
variable {s : State} {r : Record}

theorem step_executes {i : Instr} {t : State} (hentry : s.session.listing[s.session.cursor]? = some r)
    (hrun : haltCheck s.session.selected s = false) (hr : resolve s.session.selected r = .ok i)
    (hi : exec i s = .next t) : step s = .next (advanceCursor t) := by
  have hexec : executeRecord s.session.selected r s = .next t := executeRecord_next.mpr ⟨i, hr, hi⟩
  simp [step, stepSession, hentry, hrun, hexec]

theorem step_refused {e : Refusal} (hentry : s.session.listing[s.session.cursor]? = some r)
    (hrun : haltCheck s.session.selected s = false) (hr : resolve s.session.selected r = .error e) :
    step s = .refused e := by
  simp [step, stepSession, hentry, hrun, executeRecord_refused hr s]

end

/-- Settles O42. -/
theorem stepRunsTheListing : Obligations.StepRunsTheListing := by
  intro s
  refine ⟨step_exhausted, step_halted, fun r hentry hno => ⟨fun i hr => ?_, fun e => ?_⟩⟩
  · obtain ⟨t, ht⟩ := exec_completes i s
    exact ⟨t, ht, step_executes hentry (haltCheck_eq_false.mpr hno) hr ht⟩
  · exact step_refused hentry (haltCheck_eq_false.mpr hno)

/-! ### A decoded word -/

theorem decodedInstr_eq_some {a : Arch} {d : Decoded} {i : Instr} (h : decodedInstr a d = some i) :
    ∃ r, decodedRecord d = some r ∧ resolve a r = .ok i := by
  unfold decodedInstr at h
  split at h
  · cases h
  · next r hr =>
    split at h
    · next j hj => exact ⟨r, hr, by rw [hj, Option.some.inj h]⟩
    · cases h

theorem decodeTableWord_eq_some {nbits w : Nat} {i : Instr} (h : decodeTableWord nbits w = some i) :
    ∃ a d r, decodeWord nbits w = some (a, d) ∧ decodedRecord d = some r ∧ resolve a r = .ok i := by
  unfold decodeTableWord at h
  split at h
  · next a d hword =>
    obtain ⟨r, hrecord, hr⟩ := decodedInstr_eq_some h
    exact ⟨a, d, r, hword, hrecord, hr⟩
  · cases h

/-- A placed record is the one entry of the listing, its core selected and free to run. -/
theorem placeDecoded_ready (a : Arch) {d : Decoded} {r : Record} (h : decodedRecord d = some r) (s : State) :
    (placeDecoded a d s).session.listing = [r] ∧ (placeDecoded a d s).session.cursor = 0 ∧
      (placeDecoded a d s).session.selected = a ∧ haltCheck a (placeDecoded a d s) = false := by
  cases a <;> simp [placeDecoded, h, haltCheck]

/-- Settles O43: the word's record is the next entry, and its execution leaves the cursor at 0. -/
theorem stepRunsTheDecodedWord : Obligations.StepRunsTheDecodedWord := by
  intro nbits w i s h
  obtain ⟨a, d, r, hword, hrecord, hr⟩ := decodeTableWord_eq_some h
  have hplace : s.withFetchWord nbits w = placeDecoded a d s := by simp [State.withFetchWord, placeWord, hword]
  obtain ⟨hlisting, hcursor, hselected, hrun⟩ := placeDecoded_ready a hrecord s
  rw [hplace]
  generalize placeDecoded a d s = p at hlisting hcursor hselected hrun
  obtain ⟨t, ht⟩ := exec_completes i p
  obtain ⟨st, hsession⟩ := exec_session ht
  have hentry : p.session.listing[p.session.cursor]? = some r := by simp [hlisting, hcursor]
  refine ⟨resolve_wellFormed hr, t, ht, ?_⟩
  subst hselected
  rw [step_executes hentry hrun hr ht, advanceCursor, hsession, hcursor]

/-! ### A run, entry by entry -/

section
variable {a : Arch} {s : State} {r : Record}

theorem runListing_halted (h : haltCheck a s = true) (l : List Record) : runListing a l s = .next s := by
  cases l with
  | nil => rfl
  | cons r rest => simp [runListing, h]

theorem runListing_executes {i : Instr} {t : State} (hrun : haltCheck a s = false) (hr : resolve a r = .ok i)
    (hi : exec i s = .next t) (rest : List Record) : runListing a (r :: rest) s = runListing a rest t := by
  have hexec : executeRecord a r s = .next t := executeRecord_next.mpr ⟨i, hr, hi⟩
  simp [runListing, hrun, hexec]

theorem runListing_refused {e : Refusal} (hrun : haltCheck a s = false) (hr : resolve a r = .error e)
    (rest : List Record) : runListing a (r :: rest) s = .refused e := by
  simp [runListing, hrun, executeRecord_refused hr s]

end

/-! ### A run is stepping -/

/-- The state with the step cursor at an entry. -/
def atCursor (n : Nat) (s : State) : State := { s with session := { s.session with cursor := n } }

theorem haltCheck_atCursor (a : Arch) (n : Nat) (s : State) : haltCheck a (atCursor n s) = haltCheck a s := by
  cases a <;> rfl

/-- No instruction sees the cursor (R45). -/
theorem exec_atCursor {i : Instr} {s t : State} (h : exec i s = .next t) (n : Nat) :
    exec i (atCursor n s) = .next (atCursor n t) := by
  cases hi : i.arch with
  | core86 =>
    obtain ⟨c, st, -, hf⟩ := exec_acts86 hi s
    obtain rfl := Host.Outcome.next.inj ((hf s rfl rfl).symm.trans h)
    exact hf (atCursor n s) rfl rfl
  | core51 =>
    obtain ⟨c, st, -, hf⟩ := exec_acts51 hi s
    obtain rfl := Host.Outcome.next.inj ((hf s rfl rfl).symm.trans h)
    exact hf (atCursor n s) rfl rfl

theorem run_of_stuck {s : State} (h : step s = .next s) (k : Nat) : Host.Core.run Sys2Proof.core k s = .next s := by
  induction k with
  | zero => rfl
  | succ k ih => rw [run_succ h, ih]

theorem run_refused {s : State} {e : Refusal} (h : step s = .refused e) (k : Nat) :
    Host.Core.run Sys2Proof.core (k + 1) s = .refused e := by
  have hcore : Sys2Proof.core.step s = .refused e := h
  simp only [Host.Core.run, hcore]

/-- What a run of a core's listing answers, as `k` steps from a state reach it: a halt of core86 or the listing's end
with the cursor there, or the same refusal. -/
def ReachedBySteps (a : Arch) (s : State) (k : Nat) : Result → Prop
  | .next t => ∃ n, n ≤ s.session.listing.length ∧
      (n = s.session.listing.length ∨ a = .core86 ∧ t.core86.halted = true) ∧
      Host.Core.run Sys2Proof.core k s = .next (atCursor n t)
  | .fault _ => False
  | .refused e => Host.Core.run Sys2Proof.core k s = .refused e

theorem ReachedBySteps.of_stuck {a : Arch} {n : Nat} {s : State} (hn : n ≤ s.session.listing.length)
    (hstop : n = s.session.listing.length ∨ a = .core86 ∧ s.core86.halted = true)
    (hstep : step (atCursor n s) = .next (atCursor n s)) (k : Nat) : ReachedBySteps a (atCursor n s) k (.next s) :=
  ⟨n, hn, hstop, run_of_stuck hstep k⟩

theorem ReachedBySteps.of_step {a : Arch} {s t : State} {k : Nat} {answer : Result} (hstep : step s = .next t)
    (hlisting : t.session.listing = s.session.listing) (h : ReachedBySteps a t k answer) :
    ReachedBySteps a s (k + 1) answer := by
  unfold ReachedBySteps at h ⊢
  rwa [run_succ hstep, ← hlisting]

/-- A run of the entries from the cursor on is as many steps. -/
theorem reachedBySteps_runListing (rest : List Record) (n k : Nat) (s : State) (hn : n ≤ s.session.listing.length)
    (hrest : s.session.listing.drop n = rest) (hk : rest.length ≤ k) :
    ReachedBySteps s.session.selected (atCursor n s) k (runListing s.session.selected rest s) := by
  induction rest generalizing n k s with
  | nil =>
    have hend : n = s.session.listing.length := hn.antisymm (List.drop_eq_nil_iff.mp hrest)
    exact .of_stuck hn (.inl hend) (step_exhausted (List.getElem?_eq_none hend.ge)) k
  | cons r rest ih =>
    have hentry : s.session.listing[n]? = some r := by rw [← List.head?_drop, hrest, List.head?_cons]
    have hnext : n + 1 ≤ s.session.listing.length := (List.getElem?_eq_some_iff.mp hentry).1
    cases hhalt : haltCheck s.session.selected s with
    | true =>
      obtain ⟨hselected, hhalted⟩ := haltCheck_eq_true.mp hhalt
      rw [runListing_halted hhalt]
      exact .of_stuck hn (.inr ⟨hselected, hhalted⟩) (step_halted hselected hhalted) k
    | false =>
      have hrun := (haltCheck_atCursor s.session.selected n s).trans hhalt
      obtain ⟨k, rfl⟩ : ∃ m, k = m + 1 := Nat.exists_eq_add_one.mpr (Nat.zero_lt_of_lt hk)
      cases hr : resolve s.session.selected r with
      | error e =>
        rw [runListing_refused hhalt hr]
        exact run_refused (step_refused (s := atCursor n s) hentry hrun hr) k
      | ok i =>
        obtain ⟨t, ht⟩ := exec_completes i s
        obtain ⟨st, hsession⟩ := exec_session ht
        have hlisting : t.session.listing = s.session.listing := by rw [hsession]
        have hselected : t.session.selected = s.session.selected := by rw [hsession]
        have hstep : step (atCursor n s) = .next (atCursor (n + 1) t) :=
          step_executes (s := atCursor n s) hentry hrun hr (exec_atCursor ht n)
        have htail : t.session.listing.drop (n + 1) = rest := by
          rw [hlisting, ← List.tail_drop, hrest, List.tail_cons]
        have hsteps := ih (n + 1) k t (hlisting ▸ hnext) htail (Nat.le_of_succ_le_succ hk)
        rw [runListing_executes hhalt hr ht, ← hselected]
        exact hsteps.of_step hstep hlisting

/-- Settles O44: a run is stepping from entry 0. -/
theorem runIsStepping : Obligations.RunIsStepping := by
  intro a l s k hk
  have hsteps : ReachedBySteps a (setListing l (selectCore a s)) k
      (runListing a l (setListing l (selectCore a s))) :=
    reachedBySteps_runListing l 0 k (setListing l (selectCore a s)) (Nat.zero_le _) rfl hk
  generalize runListing a l (setListing l (selectCore a s)) = answer at hsteps ⊢
  cases answer with
  | next t => exact hsteps
  | fault f => exact hsteps
  | refused e => exact hsteps

/-! ### A run is the execution of its instructions -/

theorem execAll_append {is : List Instr} {s t : State} (h : execAll is s = .next t) (js : List Instr) :
    execAll (is ++ js) s = execAll js t := by
  induction is generalizing s with
  | nil => rw [← Host.Outcome.next.inj h, List.nil_append]
  | cons i is ih =>
    obtain ⟨u, hu⟩ := exec_completes i s
    rw [execAll_cons hu] at h
    rw [List.cons_append, execAll_cons hu, ih h]

/-- Nothing stops a list of instructions, and each appends its status (R240, R241). -/
theorem execAll_completes (is : List Instr) (s : State) :
    ∃ t, execAll is s = .next t ∧ t.session.log.length = s.session.log.length + is.length := by
  induction is generalizing s with
  | nil => exact ⟨s, rfl, rfl⟩
  | cons i is ih =>
    obtain ⟨u, hu⟩ := exec_completes i s
    obtain ⟨st, hsession⟩ := exec_session hu
    obtain ⟨t, ht, hlog⟩ := ih u
    refine ⟨t, (execAll_cons hu is).trans ht, ?_⟩
    rw [hlog, hsession, List.length_append, List.length_singleton, List.length_cons]
    omega

/-- An instruction other than HLT leaves a core that runs free to run. -/
theorem haltCheck_exec {a : Arch} {i : Instr} {s t : State} (hrun : haltCheck a s = false)
    (hi : a = .core86 → i ≠ .x86Hlt) (h : exec i s = .next t) : haltCheck a t = false := by
  rw [haltCheck_eq_false] at hrun ⊢
  rintro ⟨ha, hhalted⟩
  obtain hs | hhlt := (exec_halted h).mp hhalted
  · exact hrun ⟨ha, hs⟩
  · exact hi ha hhlt

/-- A run of records without HLT executes their instructions, and then goes on with what stands behind them. -/
theorem runListing_executes_all {a : Arch} (l : List Record) (is : List Instr) (s : State)
    (hrun : haltCheck a s = false) (hl : l.map (resolve a) = is.map Except.ok) (hhlt : a = .core86 → .x86Hlt ∉ is) :
    ∃ t, execAll is s = .next t ∧ haltCheck a t = false ∧ ∀ m, runListing a (l ++ m) s = runListing a m t := by
  induction is generalizing l s with
  | nil =>
    obtain rfl := List.map_eq_nil_iff.mp hl
    exact ⟨s, rfl, hrun, fun _ => rfl⟩
  | cons i is ih =>
    obtain ⟨r, l, rfl, hr, hl⟩ := List.map_eq_cons_iff.mp hl
    obtain ⟨u, hu⟩ := exec_completes i s
    have hnot : a = .core86 → i ≠ .x86Hlt ∧ .x86Hlt ∉ is := fun ha =>
      ⟨fun hi => hhlt ha (hi ▸ List.mem_cons_self), fun hmem => hhlt ha (List.mem_cons_of_mem i hmem)⟩
    obtain ⟨t, ht, hrunt, hrest⟩ := ih l u (haltCheck_exec hrun (fun ha => (hnot ha).1) hu) hl fun ha => (hnot ha).2
    refine ⟨t, (execAll_cons hu is).trans ht, hrunt, fun m => ?_⟩
    rw [List.cons_append, runListing_executes hrun hr hu, hrest]

theorem runListing_eq_execAll {a : Arch} {l : List Record} {is : List Instr} {s : State}
    (hrun : haltCheck a s = false) (hl : l.map (resolve a) = is.map Except.ok) (hhlt : a = .core86 → .x86Hlt ∉ is) :
    runListing a l s = execAll is s := by
  obtain ⟨t, ht, -, hrest⟩ := runListing_executes_all l is s hrun hl hhlt
  have hend := hrest []
  rw [List.append_nil] at hend
  rw [hend, ht]
  rfl

/-- A run of core86 ends with HLT, whatever stands behind it (R165, R266). -/
theorem runListing_hlt {r : Record} {s : State} (hr : resolve .core86 r = .ok .x86Hlt)
    (hrun : haltCheck .core86 s = false) (m : List Record) :
    runListing .core86 (r :: m) s = exec .x86Hlt s := by
  obtain ⟨t, ht⟩ := exec_completes .x86Hlt s
  have hhalted : haltCheck .core86 t = true := haltCheck_eq_true.mpr ⟨rfl, (exec_halted ht).mpr (.inr rfl)⟩
  rw [runListing_executes hrun hr ht, runListing_halted hhalted, ht]

theorem runListing_eq_execAll_hlt {l : List Record} {is : List Instr} {s : State} {r : Record}
    (hrun : haltCheck .core86 s = false) (hl : l.map (resolve .core86) = is.map Except.ok) (hhlt : .x86Hlt ∉ is)
    (hr : resolve .core86 r = .ok .x86Hlt) (m : List Record) :
    runListing .core86 (l ++ r :: m) s = execAll (is ++ [.x86Hlt]) s := by
  obtain ⟨t, ht, hrunt, hrest⟩ := runListing_executes_all l is s hrun hl fun _ => hhlt
  obtain ⟨u, hu⟩ := exec_completes .x86Hlt t
  rw [hrest, runListing_hlt hr hrunt, execAll_append ht, execAll_cons hu, hu]
  rfl

/-- Listings that run alike from every state run alike behind the same records. -/
theorem runListing_append_congr {a : Arch} {m m' : List Record} (h : ∀ s, runListing a m s = runListing a m' s)
    (l : List Record) (s : State) : runListing a (l ++ m) s = runListing a (l ++ m') s := by
  induction l generalizing s with
  | nil => exact h s
  | cons r l ih =>
    cases hhalt : haltCheck a s with
    | true => rw [runListing_halted hhalt, runListing_halted hhalt]
    | false =>
      rw [List.cons_append, List.cons_append]
      cases hr : resolve a r with
      | error e => rw [runListing_refused hhalt hr, runListing_refused hhalt hr]
      | ok i =>
        obtain ⟨t, ht⟩ := exec_completes i s
        rw [runListing_executes hhalt hr ht, runListing_executes hhalt hr ht, ih]

theorem runListing_hlt_cut {r : Record} (hr : resolve .core86 r = .ok .x86Hlt) (m : List Record) (s : State) :
    runListing .core86 (r :: m) s = runListing .core86 [r] s := by
  cases hhalt : haltCheck .core86 s with
  | true => rw [runListing_halted hhalt, runListing_halted hhalt]
  | false => rw [runListing_hlt hr hhalt, runListing_hlt hr hhalt]

/-- A program starts on a core just reset, whose latch is clear (R260, R266). -/
theorem haltCheck_readyToRun (a : Arch) (bytes : List Byte) (text : List Char) (s : State) :
    haltCheck a (readyToRun a bytes text s) = false := by
  cases a with
  | core86 =>
    rw [haltCheck_eq_false]
    rintro ⟨-, hhalted⟩
    rw [readyToRun, setListing_core86, loadProgram, State.withCore86_core86, Core86.setIP_halted,
      (loadFrom86_fixed _ _ _).2] at hhalted
    cases hhalted
  | core51 => rfl

/-- The instructions of a program's listing up to its end or, on core86, its first HLT are what the run executes. -/
theorem runListing_program {a : Arch} {l m : List Record} {is : List Instr} {s : State}
    (hrun : haltCheck a s = false) (hl : l.map (resolve a) = is.map Except.ok) (h51 : a = .core51 → m = [])
    (h86 : a = .core86 → .x86Hlt ∉ is ∧ m = [] ∨ ∃ js, is = js ++ [.x86Hlt] ∧ .x86Hlt ∉ js) :
    runListing a (l ++ m) s = execAll is s := by
  cases a with
  | core51 =>
    rw [h51 rfl, List.append_nil]
    exact runListing_eq_execAll hrun hl nofun
  | core86 =>
    obtain ⟨hhlt, rfl⟩ | ⟨js, rfl, hhlt⟩ := h86 rfl
    · rw [List.append_nil]
      exact runListing_eq_execAll hrun hl fun _ => hhlt
    · rw [List.map_append] at hl
      obtain ⟨front, last, rfl, hfront, hlast⟩ := List.map_eq_append_iff.mp hl
      obtain ⟨r, rfl, hr⟩ := List.map_eq_singleton_iff.mp hlast
      rw [List.append_assoc]
      exact runListing_eq_execAll_hlt hrun hfront hhlt hr m

/-- Settles O45. -/
theorem runExecutesEachEntryOnce : Obligations.RunExecutesEachEntryOnce := by
  refine ⟨fun l is s hl => runListing_eq_execAll rfl hl nofun, fun l is s hs hl hhlt => ⟨?_, fun r m hr => ?_⟩,
    fun l s hs => runListing_halted (haltCheck_eq_true.mpr ⟨rfl, hs⟩) l, execAll_completes, fun l m r s hr => ?_,
    fun a table text out l m is s hasm hlisting hl h51 h86 => ?_⟩
  · exact runListing_eq_execAll hs hl fun _ => hhlt
  · exact runListing_eq_execAll_hlt hs hl hhlt hr m
  · exact runListing_append_congr (runListing_hlt_cut hr m) l s
  · have hrun := haltCheck_readyToRun a (assemblyBytes out) text s
    have hprogram : runProgram a table text s =
        runListing a (listingOf text) (readyToRun a (assemblyBytes out) text s) := by simp only [runProgram, hasm]
    have hexec := runListing_program hrun hl h51 h86
    rw [← hlisting] at hexec
    exact hprogram.trans hexec

end Sys2Proof.Machine
end

section
/-! PROOFS. Numerals in every radix (R84, R271): a string of digits alone, after `0x` or `0X`, and before `H` or `B`, on
both cores, with and without the marker. -/

namespace Sys2Proof.Machine

open Sys2Proof.Safety

/-! ### Strings of digits -/

section
variable {k radix : Nat}

/-- A digit in the model's own spelling. -/
theorem digitString_eq_map (hk : k ≤ 16) (ds : List (Fin k)) : digitString ds = ds.map fun d => hexDigit d.val := by
  have all : ∀ x : Fin 16, (validDigits 16).getD x.val '?' = hexDigit x.val := by decide
  exact List.map_congr_left fun d _ => all (d.castLE hk)

theorem exists_of_mem_digitString (hk : k ≤ 16) {ds : List (Fin k)} {c : Char} (hc : c ∈ digitString ds) :
    ∃ d : Fin k, c = hexDigit d.val := by
  rw [digitString_eq_map hk] at hc
  obtain ⟨d, -, rfl⟩ := List.mem_map.mp hc
  exact ⟨d, rfl⟩

theorem digitString_ne_nil {ds : List (Fin k)} (h : ds ≠ []) : digitString ds ≠ [] :=
  fun hnil => h (List.map_eq_nil_iff.mp hnil)

theorem radixDigit_hexDigit_of_lt {d : Nat} (hradix : radix ≤ 16) (hd : d < radix) :
    radixDigit radix (hexDigit d) = some d := by
  simp [radixDigit, digitVal_hexDigit (hd.trans_le hradix), hd]

/-- Digits of a smaller radix are digits of a larger one, of the same value. -/
theorem digitsFrom_digitString (hk : k ≤ radix) (hradix : radix ≤ 16) (ds : List (Fin k)) :
    digitsFrom radix 0 (digitString ds) = some (spelled radix ds) := by
  have step : ∀ acc, digitsFrom radix acc (ds.map fun d => hexDigit d.val) =
      some (ds.foldl (fun acc d => acc * radix + d.val) acc) := by
    induction ds with
    | nil => exact fun _ => rfl
    | cons d ds ih =>
      intro acc
      simp only [List.map_cons, digitsFrom, radixDigit_hexDigit_of_lt hradix (d.isLt.trans_le hk)]
      exact ih _
  rw [digitString_eq_map (hk.trans hradix)]
  exact step 0

theorem strictBody_digitString (t : Token) (hk : k ≤ radix) (hradix : radix ≤ 16) {ds : List (Fin k)} (h : ds ≠ []) :
    strictBody t radix (digitString ds) = .ok (.value (spelled radix ds)) := by
  simp [strictBody, digitString_ne_nil h, digitsFrom_digitString hk hradix]

theorem defaultBody_digitString (t : Token) (hk : k ≤ radix) (hradix : radix ≤ 16) {ds : List (Fin k)} (h : ds ≠ []) :
    defaultBody t radix (digitString ds) = .ok (.value (spelled radix ds)) := by
  unfold defaultBody
  split
  · next hnil => exact absurd hnil (digitString_ne_nil h)
  · simp [digitsFrom_digitString hk hradix]

end

/-! ### Bodies without marks -/

/-- No character of the body is a lower-case letter, the immediate marker, a sign or an `X`. -/
def Unmarked (body : Token) : Prop := ∀ c ∈ body, c.isLower = false ∧ c ∉ ['#', '-', '+', 'X']

theorem Unmarked.append {xs ys : Token} (hx : Unmarked xs) (hy : Unmarked ys) : Unmarked (xs ++ ys) :=
  fun c hc => (List.mem_append.mp hc).elim (hx c) (hy c)

theorem digitString_unmarked {k : Nat} (hk : k ≤ 16) (ds : List (Fin k)) : Unmarked (digitString ds) := by
  have all : ∀ x : Fin 16, (hexDigit x.val).isLower = false ∧ hexDigit x.val ∉ ['#', '-', '+', 'X'] := by decide
  intro c hc
  obtain ⟨d, rfl⟩ := exists_of_mem_digitString hk hc
  exact all (d.castLE hk)

theorem suffix_unmarked {c : Char} (hc : c ∈ ['H', 'B']) : Unmarked [c] := by
  intro x hx
  obtain rfl := List.mem_singleton.mp hx
  fin_cases hc <;> decide

section
variable {body : Token} (h : Unmarked body)
include h

theorem Unmarked.head_notMem : body.head? ∉ [some '#', some '-', some '+'] := by
  cases body with
  | nil => decide
  | cons c rest =>
    obtain ⟨-, hc⟩ := h c List.mem_cons_self
    simp only [List.mem_cons, List.not_mem_nil, or_false, not_or] at hc
    simp [hc]

theorem Unmarked.take_ne : body.take 2 ≠ ['0', 'X'] := fun htake => by
  have hmem : 'X' ∈ body := List.mem_of_mem_take (htake ▸ by simp : 'X' ∈ body.take 2)
  exact (h 'X' hmem).2 (by decide)

theorem Unmarked.hasHexMark_eq_false : hasHexMark body = false := by
  have hx : body.take 2 ≠ ['0', 'x'] := fun htake => by
    have hmem : 'x' ∈ body := List.mem_of_mem_take (htake ▸ by simp : 'x' ∈ body.take 2)
    exact absurd (h 'x' hmem).1 (by decide)
  simp [hasHexMark, hx, h.take_ne]

theorem Unmarked.plainBody (hH : body.getLast? ≠ some 'H') (hB : body.getLast? ≠ some 'B') : PlainBody body :=
  ⟨fun c hc => (h c hc).1, h.head_notMem, h.take_ne, hH, hB⟩

theorem Unmarked.head_ne : body.head? ≠ some '#' := fun hhead => h.head_notMem (by simp [hhead])

theorem Unmarked.hasMarker_eq_false : hasMarker body = false := by simp [hasMarker, h.head_ne]

/-- The checks pass on such a body, and on the marker before it if it is no name. -/
theorem Unmarked.checked {a : Arch} {t : Token} (hstrip : stripMarker t = body)
    (hname : hasMarker t = true → isName a body = false) : Checked a t := by
  have hhead := h.head_notMem
  simp only [List.mem_cons, List.not_mem_nil, or_false, not_or] at hhead
  obtain ⟨-, hminus, hplus⟩ := hhead
  refine ⟨hasLowerCase_eq_false hstrip fun c hc => (h c hc).1, ?_, by simp [hstrip, hminus, hplus]⟩
  rw [hstrip]
  cases hmark : hasMarker t with
  | false => rfl
  | true => exact hname hmark

/-- The case of R84 that takes the body decides its value, behind the marker too unless the body is a name. -/
theorem Unmarked.lit_value {a : Arch} {n : Nat} (hcase : ∀ t, litBody a t body = .ok (.value n)) :
    lit a body = .ok (.value n) ∧ (isName a body = false → lit a ('#' :: body) = .ok (.value n)) := by
  have hlit : ∀ t, stripMarker t = body → (hasMarker t = true → isName a body = false) →
      lit a t = .ok (.value n) := fun t hstrip hname => by
    rw [lit_of_checked (h.checked hstrip hname), hstrip, hcase]
  refine ⟨hlit body (stripMarker_of_head_ne h.head_ne) fun hmark => ?_, fun hname => hlit _ rfl fun _ => hname⟩
  exact absurd (h.hasMarker_eq_false.symm.trans hmark) Bool.false_ne_true

end

/-! ### The four cases -/

/-- No name begins with a decimal digit (R131, R181). -/
theorem isName_digit (a : Arch) (d : Fin 10) (rest : List Char) : isName a (hexDigit d.val :: rest) = false := by
  fin_cases d <;> cases a <;> rfl

theorem isName_digitString (a : Arch) {k : Nat} (hk : k ≤ 10) {ds : List (Fin k)} (h : ds ≠ []) (suffix : List Char) :
    isName a (digitString ds ++ suffix) = false := by
  rw [digitString_eq_map (hk.trans (by decide))]
  cases ds with
  | nil => exact absurd rfl h
  | cons d ds => exact isName_digit a (d.castLE hk) _

/-- Case 4: decimal digits alone, in the core's default radix. -/
theorem litBody_decimalDigits (a : Arch) (t : Token) {ds : List (Fin 10)} (h : ds ≠ []) :
    litBody a t (digitString ds) = .ok (.value (spelled (defaultRadix a) ds)) := by
  have hno : ∀ c, (digitString ds).getLast? = some c → c ∉ ['H', 'B'] := fun c hc => by
    obtain ⟨d, rfl⟩ := exists_of_mem_digitString (by decide) (List.mem_of_getLast? hc)
    have all : ∀ x : Fin 10, hexDigit x.val ∉ ['H', 'B'] := by decide
    exact all d
  have hplain : PlainBody (digitString ds) :=
    (digitString_unmarked (by decide) ds).plainBody (fun hH => hno 'H' hH (by decide)) fun hB => hno 'B' hB (by decide)
  have hradix : 10 ≤ defaultRadix a := by cases a <;> decide
  rw [litBody_plain a t hplain, defaultBody_digitString t hradix (defaultRadix_le a) h]

/-- Case 2: digits before `H`. -/
theorem litBody_suffixH (a : Arch) (t : Token) {ds : List (Fin 16)} (h : ds ≠ []) :
    litBody a t (digitString ds ++ ['H']) = .ok (.value (spelled 16 ds)) := by
  have hmark := ((digitString_unmarked le_rfl ds).append (suffix_unmarked (by decide : 'H' ∈ _))).hasHexMark_eq_false
  simp [litBody, hmark, strictBody_digitString t le_rfl le_rfl h]

/-- Case 3: digits before `B`. -/
theorem litBody_suffixB (a : Arch) (t : Token) {ds : List (Fin 2)} (h : ds ≠ []) :
    litBody a t (digitString ds ++ ['B']) = .ok (.value (spelled 2 ds)) := by
  have hmark := ((digitString_unmarked (by decide) ds).append
    (suffix_unmarked (by decide : 'B' ∈ _))).hasHexMark_eq_false
  simp [litBody, hmark, strictBody_digitString t le_rfl (by decide) h]

/-- Case 1: digits after `0x` or `0X`. -/
theorem lit_hexMarked (a : Arch) {t : Token} {x : Char} (hx : x ∈ ['x', 'X']) {ds : List (Fin 16)} (h : ds ≠ [])
    (hstrip : stripMarker t = '0' :: x :: digitString ds) : lit a t = .ok (.value (spelled 16 ds)) := by
  have hmark : hasHexMark ('0' :: x :: digitString ds) = true := by fin_cases hx <;> rfl
  have hlow : hasLowerCase t = false := by
    rw [hasLowerCase, stripHexMark, hstrip, if_pos hmark, List.any_eq_false]
    intro c hc
    rw [isLowerLetter_eq_isLower, (digitString_unmarked le_rfl ds c hc).1]
    exact Bool.false_ne_true
  have hchecked : Checked a t := ⟨hlow, by rw [hstrip, isName_zero, Bool.and_false], by rw [hstrip]; rfl⟩
  rw [lit_of_checked hchecked, hstrip, litBody, if_pos hmark]
  exact strictBody_digitString t le_rfl le_rfl h

/-! ### Both cores -/

theorem lit_decimalDigits (a : Arch) {ds : List (Fin 10)} (h : ds ≠ []) :
    lit a (digitString ds) = .ok (.value (spelled (defaultRadix a) ds)) ∧
      lit a ('#' :: digitString ds) = .ok (.value (spelled (defaultRadix a) ds)) := by
  obtain ⟨hbare, hmarked⟩ := (digitString_unmarked (by decide) ds).lit_value fun t => litBody_decimalDigits a t h
  have hname := isName_digitString a le_rfl h []
  rw [List.append_nil] at hname
  exact ⟨hbare, hmarked hname⟩

theorem lit_suffixH (a : Arch) {ds : List (Fin 16)} (h : ds ≠ []) :
    lit a (digitString ds ++ ['H']) = .ok (.value (spelled 16 ds)) ∧
      (¬OperandName a (digitString ds ++ ['H']) →
        lit a ('#' :: (digitString ds ++ ['H'])) = .ok (.value (spelled 16 ds))) := by
  obtain ⟨hbare, hmarked⟩ := ((digitString_unmarked le_rfl ds).append (suffix_unmarked (by decide))).lit_value
    fun t => litBody_suffixH a t h
  exact ⟨hbare, fun hname => hmarked (isName_eq_false hname)⟩

theorem lit_suffixB (a : Arch) {ds : List (Fin 2)} (h : ds ≠ []) :
    lit a (digitString ds ++ ['B']) = .ok (.value (spelled 2 ds)) ∧
      lit a ('#' :: (digitString ds ++ ['B'])) = .ok (.value (spelled 2 ds)) := by
  obtain ⟨hbare, hmarked⟩ := ((digitString_unmarked (by decide) ds).append (suffix_unmarked (by decide))).lit_value
    fun t => litBody_suffixB a t h
  exact ⟨hbare, hmarked (isName_digitString a (by decide) h _)⟩

/-- Settles O58: the default radix is the one case in which the cores differ (R271). -/
theorem radixAsymmetry : Obligations.RadixAsymmetry := by
  refine ⟨fun ds h => ?_, rfl, rfl, rfl, fun a ds h => ⟨fun x hx => ?_, lit_suffixH a h⟩, fun a ds => lit_suffixB a⟩
  · obtain ⟨hbare86, hmarked86⟩ := lit_decimalDigits .core86 h
    obtain ⟨hbare51, hmarked51⟩ := lit_decimalDigits .core51 h
    exact ⟨hbare86, hmarked86, hbare51, hmarked51⟩
  · exact ⟨lit_hexMarked a hx h rfl, lit_hexMarked a hx h rfl⟩

end Sys2Proof.Machine
end
